-- ==== Sys2Proof/Word.lean ====
section
/-! DEFINITION. The codec's word types: bytes, durations, the frame buffer, train items (20_memory.md R50 to R54, 00_scope.md R12). -/

namespace Sys2Proof

/-- A byte of the frame; bit `i` has weight `2^i` (20_memory.md R53; log 14). -/
abbrev Byte := BitVec 8

/-- A pulse duration, an unsigned 32-bit number of pulse units (00_scope.md R12). -/
abbrev Duration := BitVec 32

/-- A target temperature, 8 bits read as two's complement whole degrees (00_scope.md R12). -/
abbrev Degrees := BitVec 8

/-- The frame buffer: 21 bytes, byte `k` at index `k` (20_memory.md R50, 40_frame_accessors.md R100). -/
abbrev Frame := Vector Byte 21

/-- The level of a train item: carrier on (a mark) or carrier off (a space) (20_memory.md R59). -/
inductive Level where
  | mark
  | space
deriving DecidableEq, Repr

/-- One item of a train: a level and how long it lasts (20_memory.md R59). -/
structure Item where
  level : Level
  duration : Duration
deriving DecidableEq, Repr

/-- A transmit or receive train: a finite sequence of items (00_scope.md R19, 20_memory.md R50). -/
abbrev Train := List Item

end Sys2Proof
end

