-- ==== Sys2Proof/Syntax.lean ====
section
/-! DEFINITION. The instructions: one constructor per row of spec/opcode_table.json, and the closed operand sets they
use (10_state.md R21 to R24, 43_encoder.md R180, 30_encoding.md R70 to R97). -/

namespace Sys2Proof

/-- The values of DS.MODE and of XMIT's operand `mode` (10_state.md R21). -/
inductive Mode where
  | off
  | heat
  | auto
  | cool
  | dry
  | fanOnly
deriving DecidableEq, Repr

/-- The values of DS.FAN and of XMIT's operand `fan` (10_state.md R23). -/
inductive Fan where
  | auto
  | high
  | medium
  | low
deriving DecidableEq, Repr

/-- The values of DS.SWING and of XMIT's operand `swing` (10_state.md R24). -/
inductive Swing where
  | off
  | vertical
deriving DecidableEq, Repr

/-- The five pulse symbols (30_encoding.md R90). -/
inductive Symbol where
  | hdr
  | bit1
  | bit0
  | div
  | ftr
deriving DecidableEq, Repr

/-- A place of the train grammar of 30_encoding.md R96: the header, bit `j` of byte `k`, a divider, the footer.
At a bit place `k` and `j` are the loop indices of 10_state.md R36. -/
inductive Place where
  | hdr
  | bit (k : Fin 21) (j : Fin 8)
  | div
  | ftr
deriving DecidableEq, Repr

/-- The instructions, one constructor per row of spec/opcode_table.json: the four host operations with their
operands (00_scope.md R17), the eight frame classes with the frame they carry (30_encoding.md R82 to R89) and the
five pulse symbols (R91 to R95). -/
inductive Instr where
  | idle
  | xmit (mode : Mode) (target : Degrees) (fan : Fan) (swing : Swing) (tc mc sr : Bool)
  | recv (rx : Train)
  | tick
  | fNone (frame : Frame)
  | fPower (frame : Frame)
  | fTemp (frame : Frame)
  | fMode (frame : Frame)
  | fSwing (frame : Frame)
  | fFan (frame : Frame)
  | fAutoset (frame : Frame)
  | fOther (frame : Frame)
  | sHdr
  | sBit1
  | sBit0
  | sDiv
  | sFtr
deriving DecidableEq, Repr

end Sys2Proof
end

