-- ==== Sys2Proof/Config.lean ====
section
/-! DEFINITION. What an instance fixes (00_scope.md R10), the level pins (R16), and the free values: constants without
a body, so that nothing can be proved of their values (logs 6 and 7). -/

namespace Sys2Proof

/-- The two device models of 00_scope.md R9; the pin value of `j191` is 1, that of `std` is 0. -/
inductive Model where
  | std
  | j191
deriving DecidableEq, Repr

/-- The level inputs MODEL and TX_EN (00_scope.md R16). -/
structure Pins where
  model : Model
  txEn : Bool
deriving DecidableEq, Repr

/-- The open parameters of an instance: the two header bytes and the timing tolerance in percent, 0..100
(00_scope.md R10, 92_eei_decisions.md D1, D2). They are constants of the instance; no step changes them. -/
structure Instance where
  hdr0 : Byte
  hdr1 : Byte
  tolPct : Fin 101
deriving DecidableEq, Repr

/-- The output INFO of the last RECV (60_exceptions.md R281). -/
inductive Info where
  /-- No information. -/
  | none
  /-- TimingMismatch: the cursor at the first mismatch. -/
  | pos (cur : Nat)
  /-- ChecksumMismatch: which of the two sums disagreed. -/
  | sums (bad1 bad2 : Bool)
  /-- HeaderMismatch: which of the two header bytes disagreed. -/
  | headers (h0 h1 : Bool)
deriving DecidableEq, Repr, Inhabited

/-- DS.TARGET after a RST: unspecified (10_state.md R38, 93_implementation_defined.md U8; log 6). -/
opaque Config.freeTarget : Nat → Degrees

/-- FRAME_OUT after a RST: unspecified (10_state.md R38, 93_implementation_defined.md U9; log 6). -/
opaque Config.freeFrame : Nat → Frame

/-- OK after a RST: unspecified (10_state.md R38, 93_implementation_defined.md U9; log 6). -/
opaque Config.freeOk : Nat → Bool

/-- CAUSE after a RST: unspecified (10_state.md R38, 93_implementation_defined.md U9; log 6). -/
opaque Config.freeCause : Nat → BitVec 3

/-- INFO after a RST, and after a RECV whose CAUSE is 0 or 1: any value (93_implementation_defined.md U9; logs 6, 7). -/
opaque Config.freeInfo : Nat → Info

end Sys2Proof
end

