-- ==== Sys2Proof/Machine/Timing.lean ====
section
/-! DEFINITION. The timing codec: the pulse symbols and their durations, tolerance matching, the receive-source
primitives, MOD and DEMOD (30_encoding.md R90 to R96, 42_timing_codec.md R150 to R172). -/

namespace Sys2Proof.Machine

/-! ### Durations and symbols (00_scope.md R8, 30_encoding.md R90) -/

/-- HDR_MARK (00_scope.md R8). -/
def hdrMark : Nat := 9000
/-- HDR_SPACE (00_scope.md R8). -/
def hdrSpace : Nat := 4494
/-- BIT_MARK, the mark of every bit, divider and footer (00_scope.md R8). -/
def bitMark : Nat := 572
/-- ONE_SPACE (00_scope.md R8). -/
def oneSpace : Nat := 1659
/-- ZERO_SPACE (00_scope.md R8). -/
def zeroSpace : Nat := 553
/-- GAP_SPACE (00_scope.md R8). -/
def gapSpace : Nat := 7960
/-- DIV_AFTER: a divider follows byte 5 and byte 13 (00_scope.md R8, 42_timing_codec.md R157). -/
def dividerAfter (k : Fin 21) : Bool := k == 5 || k == 13

/-- The mark of a symbol (30_encoding.md R90). -/
def symbolMark : Symbol → Nat
  | .hdr => hdrMark
  | .bit1 => bitMark
  | .bit0 => bitMark
  | .div => bitMark
  | .ftr => bitMark

/-- The space of a symbol; the footer has none (30_encoding.md R90, R95). -/
def symbolSpace : Symbol → Option Nat
  | .hdr => some hdrSpace
  | .bit1 => some oneSpace
  | .bit0 => some zeroSpace
  | .div => some gapSpace
  | .ftr => none

/-- A mark item of the given duration. -/
def markItem (n : Nat) : Item := ⟨.mark, BitVec.ofNat 32 n⟩

/-- A space item of the given duration. -/
def spaceItem (n : Nat) : Item := ⟨.space, BitVec.ofNat 32 n⟩

/-- The items a symbol appends to the train under construction, exact and without jitter (42_timing_codec.md R155). -/
def symbolItems (y : Symbol) : Train :=
  match symbolSpace y with
  | some sp => [markItem (symbolMark y), spaceItem sp]
  | none => [markItem (symbolMark y)]

/-! ### MOD, frame to train (42_timing_codec.md R156 to R158) -/

/-- The symbol of a bit (42_timing_codec.md R156). -/
def bitSymbol (b : Bool) : Symbol := if b then .bit1 else .bit0

/-- MODBYTE(b): the eight bit symbols of a byte, bit 0 first (42_timing_codec.md R156). -/
def modByte (b : Byte) : Train :=
  (List.finRange 8).flatMap fun j => symbolItems (bitSymbol b[j])

/-- MOD(F): header, the 21 bytes with a divider after bytes 5 and 13, footer (42_timing_codec.md R158). -/
def modulate (f : Frame) : Train :=
  symbolItems .hdr
    ++ ((List.finRange 21).flatMap fun k =>
          modByte f[k] ++ if dividerAfter k then symbolItems .div else [])
    ++ symbolItems .ftr

/-! ### The receive-source primitives (42_timing_codec.md R150 to R154) -/

/-- Match(e, o): the observed duration lies within `tol` percent of the expected one, both ends included
(42_timing_codec.md R150). -/
def matchDuration (tol : Fin 101) (e o : Nat) : Bool :=
  e * (100 - tol.val) ≤ 100 * o && 100 * o ≤ e * (100 + tol.val)

/-- The item at index `i` exists, has the level and a matching duration; reading past the end is a mismatch
(20_memory.md R60, 42_timing_codec.md R152, R153). -/
def itemMatches (tol : Fin 101) (rx : Train) (i : Nat) (level : Level) (e : Nat) : Bool :=
  match rx[i]? with
  | some it => it.level == level && matchDuration tol e it.duration.toNat
  | none => false

/-- expect_mark(e) at the cursor: the cursor after a match, or a mismatch (42_timing_codec.md R152). -/
def expectMark (tol : Fin 101) (rx : Train) (cur : Nat) (e : Nat) : Option Nat :=
  if itemMatches tol rx cur .mark e then some (cur + 1) else none

/-- expect_space(e) at the cursor (42_timing_codec.md R153). -/
def expectSpace (tol : Fin 101) (rx : Train) (cur : Nat) (e : Nat) : Option Nat :=
  if itemMatches tol rx cur .space e then some (cur + 1) else none

/-- expect_item(m, s) at the cursor: both items match and the cursor moves by two, or it does not move
(42_timing_codec.md R154). -/
def expectItem (tol : Fin 101) (rx : Train) (cur : Nat) (m sp : Nat) : Option Nat :=
  if itemMatches tol rx cur .mark m && itemMatches tol rx (cur + 1) .space sp then some (cur + 2) else none

/-- The primitive that tests for a symbol at the cursor: expect_item for a pair, expect_mark for the footer
(42_timing_codec.md R161 to R165). -/
def expectSymbol (tol : Fin 101) (rx : Train) (cur : Nat) (y : Symbol) : Option Nat :=
  match symbolSpace y with
  | some sp => expectItem tol rx cur (symbolMark y) sp
  | none => expectMark tol rx cur (symbolMark y)

/-! ### The train grammar (30_encoding.md R96) -/

/-- The eight bit places of byte `k`, bit 0 first. -/
def bytePlaces (k : Fin 21) : List Place := (List.finRange 8).map fun j => .bit k j

/-- The grammar of a well-formed train as the list of its places (30_encoding.md R96). -/
def grammar : List Place :=
  .hdr :: ((List.finRange 21).flatMap fun k => bytePlaces k ++ if dividerAfter k then [.div] else []) ++ [.ftr]

/-- The symbols DEMOD tries at a place, in order; at a bit the set bit is tried first (42_timing_codec.md R161, R162,
R164, R165). -/
def candidates : Place → List Symbol
  | .hdr => [.hdr]
  | .bit _ _ => [.bit1, .bit0]
  | .div => [.div]
  | .ftr => [.ftr]

/-- The first of the given symbols that matches at the cursor. -/
def selectSymbol (tol : Fin 101) (rx : Train) (cur : Nat) (ys : List Symbol) : Option Symbol :=
  ys.find? fun y => (expectSymbol tol rx cur y).isSome

/-- The symbol a frame has at a place. -/
def placeSymbol (f : Frame) : Place → Symbol
  | .hdr => .hdr
  | .bit k j => bitSymbol f[k][j]
  | .div => .div
  | .ftr => .ftr

/-! ### DEMOD, train to frame (42_timing_codec.md R161 to R168) -/

/-- FCLR: the frame of zeros (40_frame_accessors.md R101). -/
def fclr : Frame := Vector.replicate 21 0

/-- The sequencing state of a decode (10_state.md R36): the places still expected, the head of which gives the loop
indices `k` and `j`, the receive cursor, the frame buffer being filled, and whether the decode has failed. -/
structure Demod where
  todo : List Place
  cur : Nat
  frame : Frame
  failed : Bool
deriving DecidableEq, Repr

/-- The start of a decode: cursor 0, a zeroed frame, the whole grammar ahead (42_timing_codec.md R166). -/
def Demod.start : Demod := ⟨grammar, 0, fclr, false⟩

/-- The place expected next, or none once the decode has failed or is complete. -/
def Demod.expected (d : Demod) : Option Place := if d.failed then none else d.todo.head?

/-- A mismatch: the cursor stays, the decode has failed (42_timing_codec.md R167). A decode that has failed or is
complete looks at nothing more (R167, R168). -/
def Demod.fail (d : Demod) : Demod :=
  match d.expected with
  | some _ => { d with failed := true }
  | none => d

/-- Placing a bit: `F[k] <- F[k] + bit * 2^j`; other symbols leave the frame (42_timing_codec.md R163). -/
def depositSymbol (f : Frame) : Place → Symbol → Frame
  | .bit k j, .bit1 => f.set k (f[k] + BitVec.ofNat 8 (2 ^ j.val))
  | _, _ => f

/-- The arrival of a symbol: where it is expected the cursor moves over its items and a set bit is placed; anywhere
else it is a mismatch (42_timing_codec.md R161 to R165); a decode that has failed or is complete ignores it (R167,
R168). DESIGN CHOICE: a symbol of two items at the footer's place is a mismatch here, though DEMOD, which looks at a mark
only there, would pass over its mark (R165; log 19). -/
def Demod.accept (d : Demod) (y : Symbol) : Demod :=
  match d.failed, d.todo with
  | false, p :: rest =>
    if y ∈ candidates p then
      { todo := rest, cur := d.cur + (symbolItems y).length, frame := depositSymbol d.frame p y, failed := false }
    else { d with failed := true }
  | _, _ => d

/-- DEMOD's loops over the places: at each, the first candidate that matches at the cursor is taken, or the decode fails
there and looks no further (42_timing_codec.md R166, R167). -/
def demodPlaces (tol : Fin 101) (rx : Train) : List Place → Demod → Demod
  | [], d => d
  | p :: rest, d =>
    match selectSymbol tol rx d.cur (candidates p) with
    | some y => demodPlaces tol rx rest (d.accept y)
    | none => d.fail

/-- The result of DEMOD: a complete frame, or the cursor of the first mismatch (42_timing_codec.md R166). -/
inductive DemodResult where
  | ok (frame : Frame)
  | fail (pos : Nat)
deriving DecidableEq, Repr

/-- DEMOD(rx) (42_timing_codec.md R166). On a failure the partly filled frame is discarded (R167). -/
def demodulate (tol : Fin 101) (rx : Train) : DemodResult :=
  let d := demodPlaces tol rx grammar Demod.start
  if d.failed then .fail d.cur else .ok d.frame

end Sys2Proof.Machine
end

