-- ==== Sys2Proof/WellFormed.lean ====
section
/-! DEFINITION. Well-formed instructions: a frame stands under the class its command byte selects (30_encoding.md R81 to
R89). Every other operand is closed by its type (43_encoder.md R181). -/

namespace Sys2Proof

/-- The command codes that have a class of their own (30_encoding.md R82 to R88). -/
def listedCmds : List Byte := [0x00, 0x01, 0x02, 0x06, 0x07, 0x11, 0x17]

/-- The frame is in the class it is written under: byte 15 (Cmd) holds the class's code, or for F.OTHER none of the
listed codes (30_encoding.md R82 to R89). -/
def Instr.wellFormed : Instr → Bool
  | .idle => true
  | .xmit _ _ _ _ _ _ _ => true
  | .recv _ => true
  | .tick => true
  | .fNone f => f[15] == 0x00
  | .fPower f => f[15] == 0x01
  | .fTemp f => f[15] == 0x02
  | .fMode f => f[15] == 0x06
  | .fSwing f => f[15] == 0x07
  | .fFan f => f[15] == 0x11
  | .fAutoset f => f[15] == 0x17
  | .fOther f => !listedCmds.contains f[15]
  | .sHdr => true
  | .sBit1 => true
  | .sBit0 => true
  | .sDiv => true
  | .sFtr => true

end Sys2Proof
end

