-- ==== Sys2Proof/Decode.lean ====
section
/-! DEFINITION. The decoder and the encoder of the three instruction formats: host operations (30_encoding.md R97),
frames (20_memory.md R51, 30_encoding.md R81 to R89) and pulse symbols (30_encoding.md R90 to R95, R97). -/

namespace Sys2Proof

open Machine

/-- An instruction as bits, in the format of its row of spec/opcode_table.json (log 11): a host operation request with
its select OP, operand word REQ and train of 33-bit items (00_scope.md R17, 30_encoding.md R97); a 168-bit frame W
(20_memory.md R51); or a symbol as 33-bit items. -/
inductive PortWord where
  | op (op : BitVec 2) (req : BitVec 17) (rx : List (BitVec 33))
  | frame (w : BitVec 168)
  | symbol (items : List (BitVec 33))
deriving DecidableEq, Repr

/-- Why a word is no instruction. -/
inductive DecodeError where
  /-- REQ's mode code is 5 or 6, which XMIT does not admit (43_encoder.md R181). -/
  | modeNotAdmitted
  /-- The items match no symbol that may stand here (30_encoding.md R98, 42_timing_codec.md R162). -/
  | notASymbol
deriving DecidableEq, Repr

/-! ### Operand codes (30_encoding.md R97) -/

/-- The 3-bit code of DS.MODE and of REQ[2:0] (10_state.md R21, 30_encoding.md R97). -/
def modeCode : Mode → BitVec 3
  | .heat => 0
  | .auto => 1
  | .cool => 2
  | .dry => 3
  | .fanOnly => 4
  | .off => 7

/-- The mode of a REQ[2:0] code; 5 and 6 are not admitted (30_encoding.md R97, 43_encoder.md R181). -/
def modeOfCode (c : BitVec 3) : Option Mode :=
  if c = 0 then some .heat
  else if c = 1 then some .auto
  else if c = 2 then some .cool
  else if c = 3 then some .dry
  else if c = 4 then some .fanOnly
  else if c = 7 then some .off
  else none

/-- The 2-bit fan code, on the wire and in REQ[4:3] (30_encoding.md R75, R97). -/
def fanCode : Fan → BitVec 2
  | .auto => 0
  | .high => 1
  | .medium => 2
  | .low => 3

/-- The fan of a 2-bit code; every code is assigned (30_encoding.md R75). -/
def fanOfCode (c : BitVec 2) : Fan :=
  if c = 0 then .auto else if c = 1 then .high else if c = 2 then .medium else .low

/-- The 1-bit swing code of REQ[5] (30_encoding.md R97). -/
def swingCode : Swing → BitVec 1
  | .off => 0
  | .vertical => 1

/-- The swing of a REQ[5] code (30_encoding.md R97). -/
def swingOfCode (c : BitVec 1) : Swing := if c = 0 then .off else .vertical

/-- The XMIT request of a REQ word, or none for mode codes 5 and 6 (30_encoding.md R97). -/
def xmitOfReq (req : BitVec 17) : Option Instr :=
  (modeOfCode (req.extractLsb' 0 3)).map fun m =>
    .xmit m (req.extractLsb' 9 8) (fanOfCode (req.extractLsb' 3 2)) (swingOfCode (req.extractLsb' 5 1))
      req[6] req[7] req[8]

/-- The REQ word of an XMIT request (30_encoding.md R97). -/
def reqOfXmit (mode : Mode) (target : Degrees) (fan : Fan) (swing : Swing) (tc mc sr : Bool) : BitVec 17 :=
  target ++ BitVec.ofBool sr ++ BitVec.ofBool mc ++ BitVec.ofBool tc ++ swingCode swing ++ fanCode fan
    ++ modeCode mode

/-- The train item of a 33-bit word: bit 32 the level, bits 31:0 the duration (30_encoding.md R97). -/
def itemOfWord (w : BitVec 33) : Item := ⟨if w[32] then .mark else .space, w.extractLsb' 0 32⟩

/-- The 33-bit word of a train item (30_encoding.md R97). -/
def wordOfItem (it : Item) : BitVec 33 := BitVec.ofBool (it.level == .mark) ++ it.duration

/-! ### Frames as numbers (20_memory.md R51) -/

/-- The frame of a 168-bit number: byte `k` is `W[8k+7 : 8k]` (20_memory.md R51). -/
def frameOfBits (w : BitVec 168) : Frame := Vector.ofFn fun k => w.extractLsb' (8 * k.val) 8

/-- `W`, the sum over `k` of `F[k] * 2^(8k)` (20_memory.md R51). -/
def bitsOfFrame (f : Frame) : BitVec 168 := BitVec.ofNat 168 (f.toList.foldr (fun b acc => b.toNat + 256 * acc) 0)

/-- The frame under the class its command byte selects (30_encoding.md R82 to R89). -/
def instrOfFrame (f : Frame) : Instr :=
  if f[15] = 0x00 then .fNone f
  else if f[15] = 0x01 then .fPower f
  else if f[15] = 0x02 then .fTemp f
  else if f[15] = 0x06 then .fMode f
  else if f[15] = 0x07 then .fSwing f
  else if f[15] = 0x11 then .fFan f
  else if f[15] = 0x17 then .fAutoset f
  else .fOther f

/-! ### Symbols -/

/-- The instruction of a symbol (30_encoding.md R91 to R95). -/
def instrOfSymbol : Symbol → Instr
  | .hdr => .sHdr
  | .bit1 => .sBit1
  | .bit0 => .sBit0
  | .div => .sDiv
  | .ftr => .sFtr

/-- The five symbols in the table's order. -/
def allSymbols : List Symbol := [.hdr, .bit1, .bit0, .div, .ftr]

/-- The symbol that a lone group of items is: the first of `ys` that matches them all, within the tolerance ("a decoder
selects symbols by Match, not by equality", spec/opcode_table.json). DESIGN CHOICE: a lone group matches only a symbol with
as many items, so that a mark and a space are no footer, though DEMOD in a train looks at the mark only there
(42_timing_codec.md R165, R168; log 19). -/
def symbolOfItems (tol : Fin 101) (ys : List Symbol) (items : Train) : Option Symbol :=
  ys.find? fun y => (symbolItems y).length == items.length && (expectSymbol tol items 0 y).isSome

/-! ### The decoder -/

/-- The decoder. Host operations and frames decode by their bits alone; a symbol decodes by Match against the symbols
`ys` that may stand where it arrives (42_timing_codec.md R162). -/
def decode (tol : Fin 101) (ys : List Symbol) : PortWord → Except DecodeError Instr
  | .op op req rx =>
    if op = 0 then .ok .idle
    else if op = 1 then
      match xmitOfReq req with
      | some i => .ok i
      | none => .error .modeNotAdmitted
    else if op = 2 then .ok (.recv (rx.map itemOfWord))
    else .ok .tick
  | .frame w => .ok (instrOfFrame (frameOfBits w))
  | .symbol items =>
    match symbolOfItems tol ys (items.map itemOfWord) with
    | some y => .ok (instrOfSymbol y)
    | none => .error .notASymbol

/-- The decoder of nominal (transmitted) words: exact durations, every symbol (spec/opcode_table.json, SYMBOL rows). -/
def decodeNominal (w : PortWord) : Except DecodeError Instr := decode 0 allSymbols w

/-! ### The encoder -/

/-- The frame word of a frame. -/
def frameWord (f : Frame) : PortWord := .frame (bitsOfFrame f)

/-- The nominal word of a symbol (42_timing_codec.md R155, 30_encoding.md R97). -/
def symbolWord (y : Symbol) : PortWord := .symbol ((Machine.symbolItems y).map wordOfItem)

/-- The encoder: the word of an instruction, operand fields an operation does not have being zero (30_encoding.md R97,
20_memory.md R51). -/
def encode : Instr → PortWord
  | .idle => .op 0 0 []
  | .xmit m t f w tc mc sr => .op 1 (reqOfXmit m t f w tc mc sr) []
  | .recv rx => .op 2 0 (rx.map wordOfItem)
  | .tick => .op 3 0 []
  | .fNone f => frameWord f
  | .fPower f => frameWord f
  | .fTemp f => frameWord f
  | .fMode f => frameWord f
  | .fSwing f => frameWord f
  | .fFan f => frameWord f
  | .fAutoset f => frameWord f
  | .fOther f => frameWord f
  | .sHdr => symbolWord .hdr
  | .sBit1 => symbolWord .bit1
  | .sBit0 => symbolWord .bit0
  | .sDiv => symbolWord .div
  | .sFtr => symbolWord .ftr

/-! ### Words of spec/opcode_table.json -/

/-- The word of a table row's number: 2 bits (one byte) select a host operation, its operands zero; 168 bits are a frame
`W`; 66 bits (nine bytes) are a mark and a space, the first item in bits 65:33; 33 bits (five bytes) are a lone mark
(log 17). -/
def tableWord (nbits w : Nat) : Option PortWord :=
  if nbits = 2 ∨ nbits = 8 then
    if w < 4 then some (.op (BitVec.ofNat 2 w) 0 []) else none
  else if nbits = 168 then
    if w < 2 ^ 168 then some (.frame (BitVec.ofNat 168 w)) else none
  else if nbits = 66 ∨ nbits = 72 then
    if w < 2 ^ 66 then some (.symbol [BitVec.ofNat 33 (w / 2 ^ 33), BitVec.ofNat 33 w]) else none
  else if nbits = 33 ∨ nbits = 40 then
    if w < 2 ^ 33 then some (.symbol [BitVec.ofNat 33 w]) else none
  else none

/-- The instruction the decoder reads from a table row's number (log 17). -/
def decodeTableWord (nbits w : Nat) : Option Instr :=
  match tableWord nbits w with
  | some p => (decodeNominal p).toOption
  | none => none

end Sys2Proof
end

