-- ==== Sys2Proof/Machine/State.lean ====
section
/-! DEFINITION. The machine's state, its stop reasons and its reset (10_state.md, 70_reset_and_hazards.md R310). -/

namespace Sys2Proof.Machine

/-- A transmit-sink invocation: the carrier frequency and the train (00_scope.md R13, 43_encoder.md R195). -/
structure SinkCall where
  carrierHz : Nat
  train : Train
deriving DecidableEq, Repr

/-- What the host does next (00_scope.md R17, 45_host_ops.md R263; log 1). -/
inductive HostEvent where
  /-- Asserts the reset pin RST, between operations (70_reset_and_hazards.md R310). -/
  | reset
  /-- Drives the level pins MODEL and TX_EN (00_scope.md R16; log 2). -/
  | setPins (p : Pins)
  /-- Requests an operation, or delivers a lone frame or symbol (log 11). -/
  | request (w : PortWord)
deriving DecidableEq, Repr

/-- The whole state: the registers of 10_state.md R39 with GUARD beside GTIMER (R27, R28; log 13), the outputs of R33,
the sequencing state of R36, the inputs, and the model's own counter of free values. -/
structure State where
  /-- DS.MODE (10_state.md R21). -/
  mode : Mode
  /-- DS.TARGET (10_state.md R22). -/
  target : Degrees
  /-- DS.FAN (10_state.md R23). -/
  fan : Fan
  /-- DS.SWING (10_state.md R24). -/
  swing : Swing
  /-- PWR, the assumed power state (10_state.md R26). -/
  pwr : Bool
  /-- GUARD, the transmit-echo guard (10_state.md R27). -/
  guard : Bool
  /-- GTIMER, the guard's down-counter (10_state.md R28, 00_scope.md R12). -/
  gtimer : BitVec 10
  /-- FRAME_OUT, the frame the last XMIT built (10_state.md R33). -/
  frameOut : Frame
  /-- OK of the last RECV (10_state.md R33). -/
  ok : Bool
  /-- CAUSE of the last RECV (60_exceptions.md R281). -/
  cause : BitVec 3
  /-- INFO of the last RECV (60_exceptions.md R281). -/
  info : Info
  /-- PUBLISH: whether the last operation pulsed it (44_decoder.md R230; log 8). -/
  publish : Bool
  /-- The transmit-sink invocation of the last operation, if it made one (43_encoder.md R195; log 8). -/
  sink : Option SinkCall
  /-- The sequencing state and frame buffer of a decode (10_state.md R36; log 10). -/
  dm : Demod
  /-- The level pins MODEL and TX_EN (00_scope.md R16; log 2). -/
  pins : Pins
  /-- The instance's constants HDR0, HDR1 and TOL_PCT (00_scope.md R10; log 3). -/
  inst : Instance
  /-- What the host does next, first event at the head (log 1). -/
  port : List HostEvent
  /-- How many free values have been drawn: the model's own field (log 6). -/
  freeCount : Nat
deriving DecidableEq, Repr

/-- The machine never stops with a fault: "No failure is escalated to a crash" (60_exceptions.md R280), so there is no
reason to name. -/
inductive Fault
deriving DecidableEq, Repr

/-- Why the machine answers with no next state. -/
inductive Refusal where
  /-- Raised by `exec` for an instruction that has no meaning yet; no arm of this model does. Safe: nothing is claimed of
  such an instruction. -/
  | notModelled (mnemonic : String)
  /-- Raised by `step` on an XMIT request word whose mode code is 5 or 6: "a model refuses such a request" (43_encoder.md
  R181, 93_implementation_defined.md U11; log 15). Safe: the spec gives such a request no effect. -/
  | modeNotAdmitted
deriving DecidableEq, Repr

/-- The spec's test defaults for the open parameters (00_scope.md R10; PRESUMED, log 3). -/
def testInstance : Instance := ⟨0x83, 0x06, 25⟩

/-- The machine right after reset (10_state.md R38). The values the spec leaves unspecified (target, frameOut, ok,
cause, info) and those of the inputs are the model's: logs 1 to 5, 8, 10. -/
def State.reset : State where
  mode := .off
  target := 0
  fan := .auto
  swing := .off
  pwr := false
  guard := false
  gtimer := 0
  frameOut := fclr
  ok := false
  cause := 0
  info := .none
  publish := false
  sink := none
  dm := Demod.start
  pins := ⟨.j191, true⟩
  inst := testInstance
  port := []
  freeCount := 0

end Sys2Proof.Machine
end

