-- ==== Sys2Proof/Machine/Operands.lean ====
section
/-! DEFINITION. The bitfield packer: field positions and accessors (30_encoding.md R71, 40_frame_accessors.md), the model
parameters (00_scope.md R9), and the operand assembly of the temperature fields (30_encoding.md R77 to R79). -/

namespace Sys2Proof.Machine

/-! ### Generic accessors (40_frame_accessors.md R102, R103) -/

/-- A field's position: byte index, low bit, width (30_encoding.md R71). -/
structure Field where
  byte : Fin 21
  lo : Nat
  w : Nat
deriving DecidableEq, Repr

/-- The bits of the byte that the field covers, `M = (2^w - 1) * 2^lo` (40_frame_accessors.md R103). -/
def fieldMask (x : Field) : Byte := BitVec.ofNat 8 ((2 ^ x.w - 1) * 2 ^ x.lo)

/-- GetField: `(F[k] div 2^lo) mod 2^w` (40_frame_accessors.md R102). -/
def getField (f : Frame) (x : Field) : Nat := (f[x.byte]).toNat / 2 ^ x.lo % 2 ^ x.w

/-- SetField: the field's bits become `v mod 2^w`, the others stay (40_frame_accessors.md R103). -/
def setField (f : Frame) (x : Field) (v : Nat) : Frame :=
  f.set x.byte
    ((f[x.byte] &&& ~~~ fieldMask x) ||| (BitVec.ofNat 8 (v % 2 ^ x.w * 2 ^ x.lo) &&& fieldMask x))

/-! ### The named fields (30_encoding.md R71, 40_frame_accessors.md R105 to R120) -/

/-- Hdr0, byte 0 (40_frame_accessors.md R105). -/
def fieldHdr0 : Field := ⟨0, 0, 8⟩
/-- Hdr1, byte 1 (40_frame_accessors.md R105). -/
def fieldHdr1 : Field := ⟨1, 0, 8⟩
/-- Fan, byte 2 bits 1:0 (40_frame_accessors.md R106). -/
def fieldFan : Field := ⟨2, 0, 2⟩
/-- Power, byte 2 bit 2 (40_frame_accessors.md R107). -/
def fieldPower : Field := ⟨2, 2, 1⟩
/-- Sleep, byte 2 bit 3 (40_frame_accessors.md R108). -/
def fieldSleep : Field := ⟨2, 3, 1⟩
/-- AutoTempOffset, byte 2 bits 6:4 (40_frame_accessors.md R109). -/
def fieldAto : Field := ⟨2, 4, 3⟩
/-- Swing1, byte 2 bit 7 (40_frame_accessors.md R110). -/
def fieldSwing1 : Field := ⟨2, 7, 1⟩
/-- Mode, byte 3 bits 2:0 (40_frame_accessors.md R111). -/
def fieldMode : Field := ⟨3, 0, 3⟩
/-- Temp, byte 3 bits 7:4 (40_frame_accessors.md R112). -/
def fieldTemp : Field := ⟨3, 4, 4⟩
/-- Auto6, byte 4 (40_frame_accessors.md R113). -/
def fieldAuto6 : Field := ⟨4, 0, 8⟩
/-- Byte6, byte 6 (40_frame_accessors.md R114). -/
def fieldByte6 : Field := ⟨6, 0, 8⟩
/-- Swing2, byte 8 bit 6 (40_frame_accessors.md R115). -/
def fieldSwing2 : Field := ⟨8, 6, 1⟩
/-- Sum1, byte 13 (40_frame_accessors.md R116). -/
def fieldSum1 : Field := ⟨13, 0, 8⟩
/-- Cmd, byte 15 (40_frame_accessors.md R117). -/
def fieldCmd : Field := ⟨15, 0, 8⟩
/-- PAD1, byte 16 (40_frame_accessors.md R118). -/
def fieldPad1 : Field := ⟨16, 0, 8⟩
/-- Byte 18 as FINIT and the encoder write it, whole (40_frame_accessors.md R104, R119). -/
def fieldByte18 : Field := ⟨18, 0, 8⟩
/-- J191, byte 18 bit 3 (40_frame_accessors.md R119). -/
def fieldJ191 : Field := ⟨18, 3, 1⟩
/-- Sum2, byte 20 (40_frame_accessors.md R120). -/
def fieldSum2 : Field := ⟨20, 0, 8⟩

/-- The named fields of the table of 30_encoding.md R71, in its order. -/
def namedFields : List Field :=
  [fieldHdr0, fieldHdr1, fieldFan, fieldPower, fieldSleep, fieldAto, fieldSwing1, fieldMode, fieldTemp, fieldAuto6,
    fieldByte6, fieldSwing2, fieldSum1, fieldCmd, fieldPad1, fieldJ191, fieldSum2]

/-! ### Model parameters (00_scope.md R9) -/

/-- TMIN (00_scope.md R9). -/
def tmin : Model → Int
  | .j191 => 16
  | .std => 18

/-- TMAX (00_scope.md R9). -/
def tmax : Model → Int
  | .j191 => 30
  | .std => 32

/-- B18, the value written to frame byte 18 (00_scope.md R9). -/
def b18 : Model → Nat
  | .j191 => 0x08
  | .std => 0x00

/-- AUTO_REF, the reference temperature of auto mode (00_scope.md R8). -/
def autoRef : Int := 25

/-- BYTE6_SENTINEL (00_scope.md R8). -/
def byte6Sentinel : Nat := 0x80

/-- FINIT: the constant bytes of an encoded frame (40_frame_accessors.md R104, 30_encoding.md R72). -/
def finit (inst : Instance) (m : Model) (f : Frame) : Frame :=
  setField (setField (setField (setField f fieldHdr0 inst.hdr0.toNat) fieldHdr1 inst.hdr1.toNat)
    fieldByte6 byte6Sentinel) fieldByte18 (b18 m)

/-! ### Operand assembly (46_arithmetic_sequencing.md R270 to R276, 30_encoding.md R77 to R79) -/

/-- `clamp(v, lo, hi)` (46_arithmetic_sequencing.md R272). -/
def clamp (v lo hi : Int) : Int := if v < lo then lo else if v > hi then hi else v

/-- TempEnc, outside auto mode: `clamp(T, TMIN, TMAX) - TMIN` (30_encoding.md R77). -/
def tempEnc (m : Model) (t : Int) : Int := clamp t (tmin m) (tmax m) - tmin m

/-- The auto-mode offset: `clamp(T, TMIN + 1, TMAX) - 25` (30_encoding.md R78). -/
def autoOffset (m : Model) (t : Int) : Int := clamp t (tmin m + 1) (tmax m) - autoRef

/-- AutoEnc: the pair (ATO, PAD1) of an offset (30_encoding.md R78). -/
def autoEnc (off : Int) : Int × Int :=
  if off > 0 then (clamp (off - 1) 0 2, if off ≥ 3 then ((off - 3) + 1) * 4 else 0)
  else if off < 0 then (clamp ((-off - 2) + 4) 5 6, if off ≤ -3 then ((-off - 3) + 1) * 4 else 0)
  else (0, 0)

/-- AutoDec on a base temperature, an ATO value and a PAD1 value (30_encoding.md R79). -/
def autoDec (base : Int) (ato pad1 : Nat) : Int :=
  let p := pad1 / 4
  if ato = 1 ∨ ato = 2 then base + 1 + (ato : Int) + (p : Int)
  else if ato ≥ 5 then base + 1 - (((ato % 4 : Nat) : Int) + (p : Int))
  else base + 1

/-- TempDec: the target a received frame carries, the auto formulas being taken on the frame's Mode field (30_encoding.md
R79, 44_decoder.md R227). -/
def tempDec (m : Model) (f : Frame) : Int :=
  let base := (getField f fieldTemp : Int) + tmin m
  if getField f fieldMode = 1 then autoDec base (getField f fieldAto) (getField f fieldPad1) else base

/-- The wire code of a mode; OFF sets no Mode field (30_encoding.md R74). -/
def wireMode : Mode → Option Nat
  | .heat => some 0
  | .auto => some 1
  | .cool => some 2
  | .dry => some 3
  | .fanOnly => some 4
  | .off => none

/-- The mode of a received Mode field; codes 5 to 7 are not assigned (30_encoding.md R74, R98). -/
def modeOfWire (c : Nat) : Option Mode :=
  match c with
  | 0 => some .heat
  | 1 => some .auto
  | 2 => some .cool
  | 3 => some .dry
  | 4 => some .fanOnly
  | _ => none

/-- The wire code of a fan speed (30_encoding.md R75). -/
def wireFan (f : Fan) : Nat := (fanCode f).toNat

/-- The fan speed of a received Fan field (30_encoding.md R75, 44_decoder.md R228). -/
def fanOfWire (c : Nat) : Fan := fanOfCode (BitVec.ofNat 2 c)

/-- The other swing value (44_decoder.md R229). -/
def toggleSwing : Swing → Swing
  | .off => .vertical
  | .vertical => .off

end Sys2Proof.Machine
end

