-- ==== Sys2Proof/Machine/Flags.lean ====
section
/-! DEFINITION. The codec's computed flags: the derived on/off flag and the toggle flag of XMIT (10_state.md R25,
43_encoder.md R184), and the two XOR checksums with their validity bits (41_checksum.md). -/

namespace Sys2Proof.Machine

/-- `on = (DS.MODE != OFF)`, which has no storage (10_state.md R25). -/
def isOn (m : Mode) : Bool := m != .off

/-- `toggled = (on != PWR)`, with PWR as it was when XMIT began (43_encoder.md R184). -/
def toggles (m : Mode) (pwr : Bool) : Bool := isOn m != pwr

/-- The exclusive-or of the `n` bytes of the frame from index `from_` (46_arithmetic_sequencing.md R273). -/
def xorBytes (f : Frame) (from_ n : Nat) : Byte := ((f.toList.drop from_).take n).foldl (· ^^^ ·) 0

/-- `sum1(F) = XOR(F[2..=12])` (41_checksum.md R140). -/
def sum1 (f : Frame) : Byte := xorBytes f 2 11

/-- `sum2(F) = XOR(F[14..=19])` (41_checksum.md R141). -/
def sum2 (f : Frame) : Byte := xorBytes f 14 6

/-- CSUM.GEN: both sums written (41_checksum.md R142). -/
def csumGen (f : Frame) : Frame :=
  setField (setField f fieldSum1 (sum1 f).toNat) fieldSum2 (sum2 f).toNat

/-- `bad1`: the stored Sum1 disagrees (41_checksum.md R143). -/
def bad1 (f : Frame) : Bool := f[13] != sum1 f

/-- `bad2`: the stored Sum2 disagrees (41_checksum.md R143). -/
def bad2 (f : Frame) : Bool := f[20] != sum2 f

/-- CSUM.CHK (41_checksum.md R143). -/
def csumChk (f : Frame) : Bool × Bool := (bad1 f, bad2 f)

/-- `h0`: header byte 0 disagrees (44_decoder.md R224). -/
def badHdr0 (inst : Instance) (f : Frame) : Bool := f[0] != inst.hdr0

/-- `h1`: header byte 1 disagrees (44_decoder.md R224). -/
def badHdr1 (inst : Instance) (f : Frame) : Bool := f[1] != inst.hdr1

/-- A received frame passes both checksums and both header bytes: nothing else makes a frame illegal (30_encoding.md
R98). -/
def frameAccepted (inst : Instance) (f : Frame) : Bool :=
  !bad1 f && !bad2 f && !badHdr0 inst f && !badHdr1 inst f

/-- The swing toggle condition: both swing bits and the swing command (44_decoder.md R229). -/
def swingRequested (f : Frame) : Bool :=
  getField f fieldSwing1 == 1 && getField f fieldSwing2 == 1 && getField f fieldCmd == 0x07

end Sys2Proof.Machine
end

