-- ==== Sys2Proof/Machine/Ops.lean ====
section
/-! DEFINITION. The shared operations: outputs of an operation, arming and clearing the guard, ending a RECV in a failure
or in success, reset, and reading the port (00_scope.md R17, R18; 60_exceptions.md; 70_reset_and_hazards.md R310). -/

namespace Sys2Proof.Machine

/-! ### Outputs -/

/-- An operation begins: the pulses of the one before are over (log 8). -/
def beginOp (s : State) : State := { s with publish := false, sink := none }

/-! ### The guard (10_state.md R27, R28) -/

/-- GUARD_WINDOW (00_scope.md R8). -/
def guardWindow : BitVec 10 := 1000

/-- CARRIER_HZ (00_scope.md R8). -/
def carrierHz : Nat := 38000

/-- Arm the guard, from anew if it is armed already (43_encoder.md R194). -/
def armGuard (s : State) : State := { s with guard := true, gtimer := guardWindow }

/-- Clear the guard and cancel its timer (44_decoder.md R221). -/
def clearGuard (s : State) : State := { s with guard := false, gtimer := 0 }

/-- One guard unit of time passes (45_host_ops.md R260). -/
def tickGuard (s : State) : State :=
  if s.gtimer = 0 then s
  else { s with gtimer := s.gtimer - 1, guard := if s.gtimer - 1 = 0 then false else s.guard }

/-! ### The ends of a RECV (60_exceptions.md R280, R281) -/

/-- CAUSE 0, success (60_exceptions.md R281). -/
def causeSuccess : BitVec 3 := 0
/-- CAUSE 1, EchoSuppressed (60_exceptions.md R282). -/
def causeEcho : BitVec 3 := 1
/-- CAUSE 2, TimingMismatch (60_exceptions.md R283). -/
def causeTiming : BitVec 3 := 2
/-- CAUSE 3, ChecksumMismatch (60_exceptions.md R284). -/
def causeChecksum : BitVec 3 := 3
/-- CAUSE 4, HeaderMismatch (60_exceptions.md R285). -/
def causeHeader : BitVec 3 := 4

/-- Failure entry, the codec's only exception: RECV ends with OK = 0, the failure's CAUSE and INFO; nothing is saved and
control goes nowhere (00_scope.md R18, 60_exceptions.md R289). There is nothing to return from (R290). -/
def raise (cause : BitVec 3) (info : Info) (s : State) : State :=
  { s with ok := false, cause := cause, info := info, publish := false }

/-- The same for a failure whose INFO may be any value: a free value is drawn (93_implementation_defined.md U9; log 7). -/
def raiseNoInfo (cause : BitVec 3) (s : State) : State :=
  { raise cause (Config.freeInfo s.freeCount) s with freeCount := s.freeCount + 1 }

/-- The end of a successful RECV: OK = 1, CAUSE = 0, INFO free (log 7), PUBLISH pulsed (44_decoder.md R230,
60_exceptions.md R281). -/
def publishOk (s : State) : State :=
  { s with ok := true, cause := causeSuccess, info := Config.freeInfo s.freeCount, publish := true,
           freeCount := s.freeCount + 1 }

/-! ### The demodulator's sequencing state (10_state.md R36; log 10) -/

/-- None of the sequencing state survives a RECV (10_state.md R36). That a lone frame ends a symbol decode in progress in
the same way, and XMIT, TICK and IDLE do not, is a DESIGN CHOICE (log 10). -/
def restartDemod (s : State) : State := { s with dm := Demod.start }

/-- A symbol arrives at the demodulator (42_timing_codec.md R161 to R166; log 10). -/
def acceptSymbol (y : Symbol) (s : State) : State := { beginOp s with dm := s.dm.accept y }

/-- Items arrive that are no symbol that may stand here: the decode fails at the cursor (42_timing_codec.md R162,
R167). -/
def mismatchSymbol (s : State) : State := { beginOp s with dm := s.dm.fail }

/-- The symbols that may stand where the decode is; none once it has failed or is complete (42_timing_codec.md R162,
R167, R168). -/
def expectedSymbols (d : Demod) : List Symbol :=
  match d.expected with
  | some p => candidates p
  | none => []

/-! ### Reset (70_reset_and_hazards.md R310) -/

/-- RST: every register at the value of 10_state.md R38, those it leaves unspecified at a free value (log 6). The pins,
the instance's constants and what the host does next are not the block's to reset (log 1). -/
def assertReset (s : State) : State :=
  { s with
    mode := .off
    target := Config.freeTarget s.freeCount
    fan := .auto
    swing := .off
    pwr := false
    guard := false
    gtimer := 0
    frameOut := Config.freeFrame s.freeCount
    ok := Config.freeOk s.freeCount
    cause := Config.freeCause s.freeCount
    info := Config.freeInfo s.freeCount
    publish := false
    sink := none
    dm := Demod.start
    freeCount := s.freeCount + 1 }

/-- The host drives the level pins; the codec keeps no copy, so no operation has sampled them (10_state.md R30). -/
def drivePins (p : Pins) (s : State) : State := { s with pins := p }

/-! ### Reading the port (00_scope.md R17; log 1) -/

/-- What a step finds at the port. -/
inductive Fetched where
  /-- An instruction to run, with the state in which it runs. -/
  | run (i : Instr) (s : State)
  /-- A host event that is no instruction, with the state after it. -/
  | done (s : State)
  /-- A request the spec has no meaning for. -/
  | refuse (r : Refusal)
deriving DecidableEq, Repr

/-- The decoder as it stands at this moment: a symbol is matched within the instance's tolerance against the symbols
expected here (42_timing_codec.md R162). -/
def decodeHere (s : State) (w : PortWord) : Except DecodeError Instr :=
  decode s.inst.tolPct (expectedSymbols s.dm) w

/-- The next host event is taken off the port. With none the block waits, which is IDLE (45_host_ops.md R261). -/
def fetch (s : State) : Fetched :=
  match s.port with
  | [] => .run .idle s
  | .reset :: rest => .done (assertReset { s with port := rest })
  | .setPins p :: rest => .done (drivePins p { s with port := rest })
  | .request w :: rest =>
    match decodeHere s w with
    | .ok i => .run i { s with port := rest }
    | .error .modeNotAdmitted => .refuse .modeNotAdmitted
    | .error .notASymbol => .done (mismatchSymbol { s with port := rest })

/-! ### Placing an instruction where the next step finds it -/

/-- The start of a decode moved on to the first place where the symbol is expected (30_encoding.md R96). -/
def demodAt (y : Symbol) : Demod :=
  let skip := grammar.takeWhile fun p => !(candidates p).contains y
  let rest := grammar.dropWhile fun p => !(candidates p).contains y
  { todo := rest, cur := (skip.flatMap fun p => symbolItems (placeSymbol fclr p)).length, frame := fclr, failed := false }

/-- The word is put at the head of the port; for a symbol the demodulator stands where the symbol is expected (logs 10,
17). -/
def placeWord (s : State) (w : PortWord) : State :=
  let s' := { s with port := .request w :: s.port }
  match w with
  | .symbol items =>
    match symbolOfItems 0 allSymbols (items.map itemOfWord) with
    | some y => { s' with dm := demodAt y }
    | none => s'
  | _ => s'

end Sys2Proof.Machine
end

