-- ==== Sys2Proof/Machine/Decoder.lean ====
section
/-! DEFINITION. The decoder and stateful interpreter, host operation RECV: one function per step of 44_decoder.md, in its
order. -/

namespace Sys2Proof.Machine

/-- Step 1, when the guard is set: the attempt is discarded unseen and uses the guard up (44_decoder.md R221,
60_exceptions.md R282). -/
def suppressEcho (s : State) : State := raiseNoInfo causeEcho (clearGuard s)

/-- Step 5, power toggle (44_decoder.md R225). -/
def interpretPower (f : Frame) (s : State) : State :=
  if getField f fieldPower = 1 then
    if s.pwr then { s with mode := .off, pwr := false } else { s with pwr := true }
  else s

/-- Step 6, mode, using PWR as step 5 left it; codes 5 to 7 leave DS.MODE (44_decoder.md R226). -/
def interpretMode (f : Frame) (s : State) : State :=
  if s.pwr then
    match modeOfWire (getField f fieldMode) with
    | some m => { s with mode := m }
    | none => s
  else s

/-- Step 7, temperature, whatever PWR is (44_decoder.md R227). -/
def interpretTemp (f : Frame) (s : State) : State :=
  { s with target := BitVec.ofInt 8 (tempDec s.pins.model f) }

/-- Step 8, fan, whatever PWR is (44_decoder.md R228). -/
def interpretFan (f : Frame) (s : State) : State := { s with fan := fanOfWire (getField f fieldFan) }

/-- Step 9, swing toggle (44_decoder.md R229). -/
def interpretSwing (f : Frame) (s : State) : State :=
  if swingRequested f then { s with swing := toggleSwing s.swing } else s

/-- Steps 5 to 10 on an accepted frame (44_decoder.md R225 to R230). -/
def interpretFrame (f : Frame) (s : State) : State :=
  publishOk (interpretSwing f (interpretFan f (interpretTemp f (interpretMode f (interpretPower f s)))))

/-- Steps 3 to 10 on a demodulated frame: the checksums, then the header bytes, then the interpretation (44_decoder.md
R223, R224, 60_exceptions.md R287). -/
def checkAndInterpret (f : Frame) (s : State) : State :=
  if bad1 f || bad2 f then raise causeChecksum (.sums (bad1 f) (bad2 f)) s
  else if badHdr0 s.inst f || badHdr1 s.inst f then
    raise causeHeader (.headers (badHdr0 s.inst f) (badHdr1 s.inst f)) s
  else interpretFrame f s

/-- Steps 2 to 10 on what DEMOD answers (44_decoder.md R222 to R230). -/
def receiveResult (r : DemodResult) (s : State) : State :=
  match r with
  | .fail pos => raise causeTiming (.pos pos) s
  | .ok f => checkAndInterpret f s

/-- A receive attempt that DEMOD would answer with `r`: the guard is looked at first (44_decoder.md R221, R231). DESIGN
CHOICE: a RECV and a lone frame, suppressed ones too, put a symbol decode in progress back to the start, where XMIT, TICK,
IDLE and the pins leave it standing; the spec has no decode that lasts beyond one RECV (10_state.md R36; log 10). -/
def receive (r : DemodResult) (s : State) : State :=
  let s := restartDemod (beginOp s)
  if s.guard then suppressEcho s else receiveResult r s

/-- The reception of a frame: RECV of a train that demodulates to it (20_memory.md R65, 44_decoder.md R231; log 9). -/
def receiveFrame (f : Frame) (s : State) : State := receive (.ok f) s

/-- RECV (44_decoder.md R231). -/
def execRecv (rx : Train) (s : State) : Host.Outcome State Fault Refusal :=
  .next (receive (demodulate s.inst.tolPct rx) s)

end Sys2Proof.Machine
end

