-- ==== Sys2Proof/Machine/Encoder.lean ====
section
/-! DEFINITION. The encoder, host operation XMIT: one function per step of 43_encoder.md, in its order. -/

namespace Sys2Proof.Machine

/-- Cmd of F.POWER (30_encoding.md R83). -/
def cmdPower : Nat := 0x01
/-- Cmd of F.TEMP (30_encoding.md R84). -/
def cmdTemp : Nat := 0x02
/-- Cmd of F.MODE (30_encoding.md R85). -/
def cmdMode : Nat := 0x06
/-- Cmd of F.SWING (30_encoding.md R86). -/
def cmdSwing : Nat := 0x07
/-- Cmd of F.FAN (30_encoding.md R87). -/
def cmdFan : Nat := 0x11
/-- Cmd of F.AUTOSET (30_encoding.md R88). -/
def cmdAutoset : Nat := 0x17

/-- Step 0, latch: the four DeviceState registers take the operands (43_encoder.md R182). -/
def latchRequest (mode : Mode) (target : Degrees) (fan : Fan) (swing : Swing) (s : State) : State :=
  { s with mode := mode, target := target, fan := fan, swing := swing }

/-- Step 1, initialise (43_encoder.md R183). -/
def encodeInit (inst : Instance) (m : Model) : Frame := finit inst m fclr

/-- Step 2, power toggle, on the frame (43_encoder.md R184). -/
def encodePower (toggled : Bool) (f : Frame) : Frame :=
  if toggled then
    setField (setField (setField (setField f fieldPower 1) fieldCmd cmdPower) fieldSwing1 0) fieldSwing2 0
  else f

/-- Step 3, mode; AUTO's command is left to step 4, OFF sets nothing (43_encoder.md R185). -/
def encodeMode (mode : Mode) (f : Frame) : Frame :=
  match wireMode mode with
  | none => f
  | some c => if mode = .auto then setField f fieldMode c else setField (setField f fieldMode c) fieldCmd cmdMode

/-- Step 4, auto mode (43_encoder.md R186). The integers written are non-negative (46_arithmetic_sequencing.md R271). -/
def encodeAuto (m : Model) (mode : Mode) (t : Int) (f : Frame) : Frame :=
  if mode = .auto then
    let e := autoEnc (autoOffset m t)
    setField (setField (setField (setField (setField f fieldAuto6 0x80) fieldCmd cmdAutoset)
      fieldTemp (autoRef - tmin m).toNat) fieldAto e.1.toNat) fieldPad1 e.2.toNat
  else f

/-- Step 5, temperature outside auto, OFF included (43_encoder.md R187). -/
def encodeTemp (m : Model) (mode : Mode) (t : Int) (f : Frame) : Frame :=
  if mode = .auto then f else setField f fieldTemp (tempEnc m t).toNat

/-- Step 6, temperature command (43_encoder.md R188). -/
def encodeTempCmd (tc toggled : Bool) (f : Frame) : Frame :=
  if tc && !toggled then setField f fieldCmd cmdTemp else f

/-- Step 7, fan (43_encoder.md R189). -/
def encodeFan (fan : Fan) (f : Frame) : Frame :=
  let f' := setField f fieldFan (wireFan fan)
  if fan = .auto then f' else setField f' fieldCmd cmdFan

/-- Step 8, swing (43_encoder.md R190). -/
def encodeSwing (sr : Bool) (f : Frame) : Frame :=
  if sr then setField (setField (setField f fieldSwing1 1) fieldSwing2 1) fieldCmd cmdSwing else f

/-- Step 9, Auto6 clean-up (43_encoder.md R191). -/
def encodeAuto6 (f : Frame) : Frame :=
  if getField f fieldCmd = cmdAutoset then f else setField f fieldAuto6 0

/-- The frame XMIT builds: steps 1 to 10 in order, later steps winning (43_encoder.md R196, R198). The flag `mc` and the
operand `swing` are not read (R199, R190). -/
def buildFrame (inst : Instance) (m : Model) (pwr : Bool) (mode : Mode) (target : Degrees) (fan : Fan) (tc sr : Bool) :
    Frame :=
  let toggled := toggles mode pwr
  let t := target.toInt
  let f := encodeInit inst m
  let f := encodePower toggled f
  let f := encodeMode mode f
  let f := encodeAuto m mode t f
  let f := encodeTemp m mode t f
  let f := encodeTempCmd tc toggled f
  let f := encodeFan fan f
  let f := encodeSwing sr f
  let f := encodeAuto6 f
  csumGen f

/-- Step 2, power toggle, on PWR (43_encoder.md R184). -/
def updatePower (mode : Mode) (s : State) : State :=
  if toggles mode s.pwr then { s with pwr := isOn mode } else s

/-- Steps 11a and 11c: FRAME_OUT takes the frame, and the sink is invoked once if TX_EN is 1 (43_encoder.md R193,
R195). -/
def presentFrame (f : Frame) (s : State) : State :=
  { s with frameOut := f, sink := if s.pins.txEn then some ⟨carrierHz, modulate f⟩ else none }

/-- XMIT (43_encoder.md R196). It has no failure (R200). -/
def execXmit (mode : Mode) (target : Degrees) (fan : Fan) (swing : Swing) (tc mc sr : Bool) (s : State) :
    Host.Outcome State Fault Refusal :=
  let _ := mc
  let f := buildFrame s.inst s.pins.model s.pwr mode target fan tc sr
  .next (presentFrame f (armGuard (updatePower mode (latchRequest mode target fan swing (beginOp s)))))

end Sys2Proof.Machine
end

