-- ==== Sys2Proof/Machine/Frames.lean ====
section
/-! DEFINITION. The eight frame classes: what a received frame does (30_encoding.md R81 to R89, 44_decoder.md R231; log
9). Cmd selects no layout and no meaning of its own but for the swing test of step 9, so each is the reception of the
frame it carries. -/

namespace Sys2Proof.Machine

/-- F.NONE, Cmd 0x00. Treated on receive like any code other than 0x07 (30_encoding.md R82). -/
def execFNone (frame : Frame) (s : State) : Host.Outcome State Fault Refusal := .next (receiveFrame frame s)

/-- F.POWER, Cmd 0x01. The power toggle is recognised by the Power bit alone, not by this code (30_encoding.md R83). -/
def execFPower (frame : Frame) (s : State) : Host.Outcome State Fault Refusal := .next (receiveFrame frame s)

/-- F.TEMP, Cmd 0x02. The code has no effect of its own on receive; the temperature is decoded from every accepted frame (30_encoding.md R84). -/
def execFTemp (frame : Frame) (s : State) : Host.Outcome State Fault Refusal := .next (receiveFrame frame s)

/-- F.MODE, Cmd 0x06. The code has no effect of its own on receive (30_encoding.md R85). -/
def execFMode (frame : Frame) (s : State) : Host.Outcome State Fault Refusal := .next (receiveFrame frame s)

/-- F.SWING, Cmd 0x07. The only code the interpreter tests: with both swing bits set it toggles DS.SWING (30_encoding.md R86). -/
def execFSwing (frame : Frame) (s : State) : Host.Outcome State Fault Refusal := .next (receiveFrame frame s)

/-- F.FAN, Cmd 0x11. The code has no effect of its own on receive (30_encoding.md R87). -/
def execFFan (frame : Frame) (s : State) : Host.Outcome State Fault Refusal := .next (receiveFrame frame s)

/-- F.AUTOSET, Cmd 0x17. The code has no effect of its own on receive; auto mode is recognised by the Mode field (30_encoding.md R88). -/
def execFAutoset (frame : Frame) (s : State) : Host.Outcome State Fault Refusal := .next (receiveFrame frame s)

/-- F.OTHER, any other Cmd. Accepted and interpreted like any other frame, without a swing toggle (30_encoding.md R89). -/
def execFOther (frame : Frame) (s : State) : Host.Outcome State Fault Refusal := .next (receiveFrame frame s)

end Sys2Proof.Machine
end

