-- ==== Sys2Proof/Machine/HostOps.lean ====
section
/-! DEFINITION. The two small host operations TICK and IDLE (45_host_ops.md). -/

namespace Sys2Proof.Machine

/-- IDLE: no state changes and no output (45_host_ops.md R261). -/
def execIdle (s : State) : Host.Outcome State Fault Refusal := .next (beginOp s)

/-- TICK: one guard unit of time passes (45_host_ops.md R260). -/
def execTick (s : State) : Host.Outcome State Fault Refusal := .next (tickGuard (beginOp s))

end Sys2Proof.Machine
end

