-- ==== Sys2Proof/Machine/Symbols.lean ====
section
/-! DEFINITION. The five pulse symbols: what the arrival of one does to the decode in progress (30_encoding.md R91 to R95,
42_timing_codec.md R161 to R166; log 10). Their transmitted side is `symbolItems` and `encode`. -/

namespace Sys2Proof.Machine

/-- S.HDR: the header pair that opens a train; cur moves by 2 (30_encoding.md R91, 42_timing_codec.md R161). Where it is not expected it is a mismatch (R167). -/
def execSHdr (s : State) : Host.Outcome State Fault Refusal := .next (acceptSymbol .hdr s)

/-- S.BIT1: a set bit; it is placed at bit j of byte k and cur moves by 2 (30_encoding.md R92, 42_timing_codec.md R162). Where it is not expected it is a mismatch (R167). -/
def execSBit1 (s : State) : Host.Outcome State Fault Refusal := .next (acceptSymbol .bit1 s)

/-- S.BIT0: a clear bit; cur moves by 2 (30_encoding.md R93, 42_timing_codec.md R162). Where it is not expected it is a mismatch (R167). -/
def execSBit0 (s : State) : Host.Outcome State Fault Refusal := .next (acceptSymbol .bit0 s)

/-- S.DIV: a divider after byte 5 or byte 13; cur moves by 2 (30_encoding.md R94, 42_timing_codec.md R164). Where it is not expected it is a mismatch (R167). -/
def execSDiv (s : State) : Host.Outcome State Fault Refusal := .next (acceptSymbol .div s)

/-- S.FTR: the lone mark that closes a train; cur moves by 1 and the decode is complete (30_encoding.md R95, 42_timing_codec.md R165). Where it is not expected it is a mismatch (R167). -/
def execSFtr (s : State) : Host.Outcome State Fault Refusal := .next (acceptSymbol .ftr s)

end Sys2Proof.Machine
end

