-- ==== Sys2Proof/Machine/Dispatch.lean ====
section
/-! DEFINITION. The dispatch: one arm per instruction, each one direct call of its meaning. -/

namespace Sys2Proof.Machine

def exec (i : Instr) (s : State) : Host.Outcome State Fault Refusal :=
  match i with
  | .idle => Sys2Proof.Machine.execIdle s
  | .xmit mode target fan swing tc mc sr => Sys2Proof.Machine.execXmit mode target fan swing tc mc sr s
  | .recv rx => Sys2Proof.Machine.execRecv rx s
  | .tick => Sys2Proof.Machine.execTick s
  | .fNone frame => Sys2Proof.Machine.execFNone frame s
  | .fPower frame => Sys2Proof.Machine.execFPower frame s
  | .fTemp frame => Sys2Proof.Machine.execFTemp frame s
  | .fMode frame => Sys2Proof.Machine.execFMode frame s
  | .fSwing frame => Sys2Proof.Machine.execFSwing frame s
  | .fFan frame => Sys2Proof.Machine.execFFan frame s
  | .fAutoset frame => Sys2Proof.Machine.execFAutoset frame s
  | .fOther frame => Sys2Proof.Machine.execFOther frame s
  | .sHdr => Sys2Proof.Machine.execSHdr s
  | .sBit1 => Sys2Proof.Machine.execSBit1 s
  | .sBit0 => Sys2Proof.Machine.execSBit0 s
  | .sDiv => Sys2Proof.Machine.execSDiv s
  | .sFtr => Sys2Proof.Machine.execSFtr s

end Sys2Proof.Machine
end

