-- ==== Sys2Proof/Machine/Step.lean ====
section
/-! DEFINITION. One step: the next host event is taken off the port and, if it is an instruction, run (00_scope.md R17,
20_memory.md R62; log 1). -/

namespace Sys2Proof.Machine

/-- One step of the machine. A host event is consumed and performed to completion before the next (20_memory.md R62). -/
def step (s : State) : Host.Outcome State Fault Refusal :=
  match fetch s with
  | .run i s' => exec i s'
  | .done s' => .next s'
  | .refuse r => .refused r

/-- The state with a table row's instruction placed where the next step finds it (log 17); a number that is no row's word
leaves the state. -/
def State.withFetchWord (s : State) (nbits w : Nat) : State :=
  match tableWord nbits w with
  | some p => placeWord s p
  | none => s

end Sys2Proof.Machine
end

