-- ==== Sys2Proof/Safety.lean ====
section
/-! DEFINITION. The terms claims are stated in: the guard invariant of 10_state.md R28 and R29, the place of the
demodulator in the train grammar, the power relation of 44_decoder.md R238, runs of instructions, and what an
instruction leaves as it was. -/

namespace Sys2Proof.Machine

/-- GUARD = 1 exactly when GTIMER > 0 (10_state.md R29), and GTIMER holds 0..1000 (R28). -/
def GuardInv (s : State) : Prop := (s.guard = true ↔ s.gtimer ≠ 0) ∧ s.gtimer.toNat ≤ 1000

/-- The number of items of the symbols of some places (30_encoding.md R96). -/
def itemsOf (ps : List Place) : Nat := (ps.flatMap fun p => symbolItems (placeSymbol fclr p)).length

/-- The demodulator stands at a place of the grammar, and its cursor has passed exactly the items before that place
(10_state.md R36, 20_memory.md R58). -/
def DemodInv (s : State) : Prop := s.dm.todo <:+ grammar ∧ s.dm.cur + itemsOf s.dm.todo = 343

/-- `PWR = (DS.MODE != OFF)` (44_decoder.md R238). -/
def PowerAgrees (s : State) : Prop := s.pwr = isOn s.mode

/-- The frame an instruction has the codec interpret, if the guard is clear and the frame is accepted: the one RECV's train
demodulates to, or a frame class's own (44_decoder.md R231; log 9). -/
def Carries (i : Instr) (s : State) (f : Frame) : Prop :=
  (∃ rx, i = .recv rx ∧ demodulate s.inst.tolPct rx = .ok f) ∨
    i ∈ [.fNone f, .fPower f, .fTemp f, .fMode f, .fSwing f, .fFan f, .fAutoset f, .fOther f]

/-- The four DeviceState registers are as they were (10_state.md R20). -/
def SameDevice (s t : State) : Prop :=
  t.mode = s.mode ∧ t.target = s.target ∧ t.fan = s.fan ∧ t.swing = s.swing

/-- GUARD and GTIMER are as they were (10_state.md R27, R28). -/
def SameGuard (s t : State) : Prop := t.guard = s.guard ∧ t.gtimer = s.gtimer

/-- The results of the last RECV are as they were (10_state.md R33). -/
def SameResult (s t : State) : Prop := t.ok = s.ok ∧ t.cause = s.cause ∧ t.info = s.info

/-- The pins, the instance's constants and what the host does next are as they were (10_state.md R30). -/
def SameInputs (s t : State) : Prop := t.pins = s.pins ∧ t.inst = s.inst ∧ t.port = s.port

/-- Running instructions one after another, stopping where one does not answer a next state. -/
def runInstrs : List Instr → State → Host.Outcome State Fault Refusal
  | [], s => .next s
  | i :: is, s =>
    match exec i s with
    | .next t => runInstrs is t
    | .fault r => .fault r
    | .refused r => .refused r

end Sys2Proof.Machine
end

