-- ==== Sys2Proof/Certificates/Slice0/Obligations.lean ====
section
/-! DEFINITION. The statements about the codec. Each docstring names the rules of spec/ it formalises. Statements quantify over
the instance's constants HDR0, HDR1, TOL_PCT and over the pins, which are fields of the state (logs 2 and 3). -/

open Sys2Proof Sys2Proof.Machine

/-! ### Encoding -/

/-- Decoding the encoding of a well-formed instruction gives it back, with every operand (30_encoding.md R97, 20_memory.md
R51, 30_encoding.md R81 to R95). -/
def Obligations.DecodeOfEncodeIsTheInstruction : Prop :=
  ∀ i : Instr, i.wellFormed = true → decodeNominal (encode i) = .ok i

/-- Every 168-bit word is exactly one well-formed frame instruction and encodes back to the same word: no frame word is
refused and none of its bits is dropped (30_encoding.md R70, R89, 20_memory.md R51). -/
def Obligations.EveryFrameWordIsAFrameInstruction : Prop :=
  ∀ w : BitVec 168, ∃ i, decodeNominal (.frame w) = .ok i ∧ i.wellFormed = true ∧ encode i = .frame w

/-- A REQ word decodes to an XMIT whose operands encode back to it, and is not admitted exactly when its mode code is 5 or
6 (30_encoding.md R97, 43_encoder.md R181). -/
def Obligations.RequestWordsRoundTrip : Prop :=
  ∀ (tol : Fin 101) (ys : List Symbol) (req : BitVec 17) (rx : List (BitVec 33)),
    if req.extractLsb' 0 3 = 5 ∨ req.extractLsb' 0 3 = 6 then
      decode tol ys (.op 1 req rx) = .error .modeNotAdmitted
    else
      ∃ m t f w tc mc sr, decode tol ys (.op 1 req rx) = .ok (.xmit m t f w tc mc sr) ∧
        reqOfXmit m t f w tc mc sr = req

/-- Within every tolerance up to 66 percent, the exact word of a symbol decodes to that symbol at every place of the train
grammar where it may stand (42_timing_codec.md R161 to R165, R171). -/
def Obligations.NominalSymbolsDecodeAtTheirPlaces : Prop :=
  ∀ (tol : Fin 101) (p : Place) (y : Symbol), tol.val ≤ 66 → y ∈ candidates p →
    decode tol (candidates p) (symbolWord y) = .ok (instrOfSymbol y)

/-- Words written out from the encodings of the table decode to the instructions they stand for: a sanity statement
(30_encoding.md R97, R86, R91, 95_test_vectors.md P1, V8). -/
def Obligations.WrittenOutWordsDecode : Prop :=
  decodeNominal (.op 0b11 0 []) = .ok .tick ∧
  decodeNominal (.op 0b01 0x0308A []) = .ok (.xmit .cool 24 .high .off false true false) ∧
  decodeNominal (.op 0b10 0 [0x10000023C#33, 0x00000067B#33]) =
    .ok (.recv [⟨.mark, 572⟩, ⟨.space, 1659⟩]) ∧
  decodeNominal (.frame 0x0F0008000007002300000000400080000062810683#168) =
    .ok (.fSwing #v[0x83, 0x06, 0x81, 0x62, 0x00, 0x00, 0x80, 0x00, 0x40, 0x00, 0x00, 0x00, 0x00, 0x23, 0x00, 0x07, 0x00,
      0x00, 0x08, 0x00, 0x0F]) ∧
  decodeNominal (.symbol [0x100002328#33, 0x00000118E#33]) = .ok .sHdr

/-! ### The step -/

/-- When the word at the head of the port decodes to an instruction, the step takes it off the port and is that
instruction's meaning; with nothing at the port the step is IDLE (00_scope.md R17, 45_host_ops.md R261; the port as a list
is the model's, log 1). -/
def Obligations.StepRunsTheDecodedInstruction : Prop :=
  (∀ (s : State) (w : PortWord) (rest : List HostEvent) (i : Instr),
    s.port = .request w :: rest → decodeHere s w = .ok i → step s = exec i { s with port := rest }) ∧
  (∀ s : State, s.port = [] → step s = exec .idle s)

/-- The host's events that are no instruction: RST resets the registers, the pins follow what is driven and nothing else
changes, and items that are no symbol expected where the decode stands fail the decode there (70_reset_and_hazards.md R310,
00_scope.md R16, 42_timing_codec.md R162; the port is the model's, logs 1, 2, 11). -/
def Obligations.OtherHostEventsTakeEffect : Prop :=
  (∀ (s : State) (rest : List HostEvent), s.port = .reset :: rest →
    step s = .next (assertReset { s with port := rest })) ∧
  (∀ (s : State) (p : Pins) (rest : List HostEvent), s.port = .setPins p :: rest →
    step s = .next { s with pins := p, port := rest }) ∧
  (∀ (s : State) (items : List (BitVec 33)) (rest : List HostEvent),
    s.port = .request (.symbol items) :: rest →
    symbolOfItems s.inst.tolPct (expectedSymbols s.dm) (items.map itemOfWord) = none →
    ∃ t, step s = .next t ∧ t.dm = s.dm.fail ∧ t.port = rest ∧ SameDevice s t ∧ t.pwr = s.pwr ∧ SameGuard s t)

/-- The machine stops on one thing only: an XMIT request whose mode code is 5 or 6. Every other step answers a next state
(43_encoder.md R181, 60_exceptions.md R280; the port is the model's, log 1). -/
def Obligations.OnlyUnadmittedModesAreRefused : Prop :=
  ∀ s : State,
    (∃ req rx rest, s.port = .request (.op 1 req rx) :: rest ∧
        (req.extractLsb' 0 3 = 5 ∨ req.extractLsb' 0 3 = 6) ∧ step s = .refused .modeNotAdmitted) ∨
    ((∃ t, step s = .next t) ∧
      ∀ req rx rest, s.port = .request (.op 1 req rx) :: rest →
        ¬ (req.extractLsb' 0 3 = 5 ∨ req.extractLsb' 0 3 = 6))

/-! ### Reset and invariants -/

/-- Asserting RST puts DS.MODE, DS.FAN, DS.SWING, PWR, GUARD and GTIMER at their reset values, whatever they held; DS.TARGET
and the outputs are unspecified and nothing is said of them (70_reset_and_hazards.md R310). -/
def Obligations.RstPutsTheRegistersAtTheirResetValues : Prop :=
  ∀ s : State,
    (assertReset s).mode = .off ∧ (assertReset s).fan = .auto ∧ (assertReset s).swing = .off ∧
    (assertReset s).pwr = false ∧ (assertReset s).guard = false ∧ (assertReset s).gtimer = 0 ∧
    State.reset.mode = .off ∧ State.reset.fan = .auto ∧ State.reset.swing = .off ∧
    State.reset.pwr = false ∧ State.reset.guard = false ∧ State.reset.gtimer = 0

/-- GUARD = 1 exactly when GTIMER > 0, and GTIMER is at most 1000: every step keeps it (10_state.md R28, R29). -/
def Obligations.EveryStepKeepsTheGuardInvariant : Prop :=
  ∀ s t : State, GuardInv s → step s = .next t → GuardInv t

/-- The guard invariant, the place of the demodulator and the power relation hold at reset (10_state.md R29, R36, R38,
44_decoder.md R238). -/
def Obligations.ResetMeetsTheInvariants : Prop :=
  GuardInv State.reset ∧ DemodInv State.reset ∧ PowerAgrees State.reset

/-- The demodulator stands at a place of the train grammar with its cursor just past the items before it: every step keeps
it (10_state.md R36, 30_encoding.md R96; held between steps for the symbol instructions, log 10). -/
def Obligations.EveryStepKeepsTheDemodulatorInTheGrammar : Prop :=
  ∀ s t : State, DemodInv s → step s = .next t → DemodInv t

/-- `PWR = (DS.MODE != OFF)`: every instruction keeps it, but exactly for the reception of an accepted frame with Power = 1
and a Mode code of 5 to 7 while PWR = 0, which leaves PWR = 1 with DS.MODE = OFF; XMIT establishes it from any state
(44_decoder.md R238, 43_encoder.md R201; a lone frame as an instruction is log 9, codes 5 to 7 are log 16). -/
def Obligations.PowerBeliefAgreesWithModeButForOneReception : Prop :=
  (∀ (i : Instr) (s t : State), PowerAgrees s → exec i s = .next t →
    (PowerAgrees t ∨ (t.pwr = true ∧ t.mode = .off ∧ t.publish = true)) ∧
    (¬ PowerAgrees t ↔
      ∃ f, Carries i s f ∧ s.guard = false ∧ frameAccepted s.inst f = true ∧
        getField f fieldPower = 1 ∧ s.pwr = false ∧ 5 ≤ getField f fieldMode)) ∧
  (∀ (m : Mode) (g : Degrees) (f : Fan) (w : Swing) (tc mc sr : Bool) (s t : State),
    exec (.xmit m g f w tc mc sr) s = .next t → PowerAgrees t)

/-! ### The frame and its accessors, the checksums -/

/-- The laws of the accessors: read after write, write after read, no other field and no other byte changes, writes to
different fields commute, a second write wins (40_frame_accessors.md R121). -/
def Obligations.FieldAccessorsObeyTheirLaws : Prop :=
  (∀ x ∈ namedFields, ∀ (f : Frame) (v : Nat), getField (setField f x v) x = v % 2 ^ x.w) ∧
  (∀ x ∈ namedFields, ∀ f : Frame, setField f x (getField f x) = f) ∧
  (∀ x ∈ namedFields, ∀ y ∈ namedFields, x ≠ y → ∀ (f : Frame) (v : Nat),
    getField (setField f x v) y = getField f y) ∧
  (∀ x ∈ namedFields, ∀ (f : Frame) (v : Nat) (k : Fin 21), k ≠ x.byte → (setField f x v)[k] = f[k]) ∧
  (∀ x ∈ namedFields, ∀ y ∈ namedFields, x ≠ y → ∀ (f : Frame) (u v : Nat),
    setField (setField f x u) y v = setField (setField f y v) x u) ∧
  (∀ x ∈ namedFields, ∀ (f : Frame) (u v : Nat), setField (setField f x u) x v = setField f x v)

/-- CSUM.GEN makes both checks pass, is idempotent, and writes bytes 13 and 20 only (41_checksum.md R142, R143). -/
def Obligations.GeneratedChecksumsAreValid : Prop :=
  ∀ f : Frame, csumChk (csumGen f) = (false, false) ∧ csumGen (csumGen f) = csumGen f ∧
    ∀ k : Fin 21, k ≠ 13 → k ≠ 20 → (csumGen f)[k] = f[k]

/-- A change of one byte of a valid frame among bytes 2 to 13 makes bad1 = 1, among bytes 14 to 20 makes bad2 = 1, and the
other check still passes (41_checksum.md R144, part (a)). -/
def Obligations.SingleByteMutationsAreDetected : Prop :=
  ∀ (f : Frame) (k : Fin 21) (b : Byte), csumChk f = (false, false) → f[k] ≠ b →
    (2 ≤ k.val → k.val ≤ 13 → csumChk (f.set k b) = (true, false)) ∧
    (14 ≤ k.val → csumChk (f.set k b) = (false, true))

/-! ### The timing codec -/

/-- MOD gives 343 items at the places of the index map: header, for bit `j` of byte `k` a mark at `2 + 16k + 2j + D(k)` and
its space after it, the two dividers, and the footer (20_memory.md R58). -/
def Obligations.ModulatedItemsStandAtTheirIndices : Prop :=
  ∀ f : Frame,
    (modulate f).length = 343 ∧
    (modulate f)[0]? = some ⟨.mark, 9000⟩ ∧ (modulate f)[1]? = some ⟨.space, 4494⟩ ∧
    (∀ (k : Fin 21) (j : Fin 8),
      let i := 2 + 16 * k.val + 2 * j.val + (if k.val ≤ 5 then 0 else if k.val ≤ 13 then 2 else 4)
      (modulate f)[i]? = some ⟨.mark, 572⟩ ∧
      (modulate f)[i + 1]? = some ⟨.space, if f[k][j] then 1659 else 553⟩) ∧
    (modulate f)[98]? = some ⟨.mark, 572⟩ ∧ (modulate f)[99]? = some ⟨.space, 7960⟩ ∧
    (modulate f)[228]? = some ⟨.mark, 572⟩ ∧ (modulate f)[229]? = some ⟨.space, 7960⟩ ∧
    (modulate f)[342]? = some ⟨.mark, 572⟩ ∧
    (∀ (i : Nat) (it : Item), (modulate f)[i]? = some it → (it.level = .mark ↔ i % 2 = 0))

/-- MOD always gives 343 items and two different frames give different trains (42_timing_codec.md R159). -/
def Obligations.ModulationIsInjective : Prop :=
  ∀ f g : Frame, (modulate f).length = 343 ∧ (modulate f = modulate g → f = g)

/-- The durations of a train sum to `220130 + 1106 * n1`, where `n1` is the number of set bits of the frame
(42_timing_codec.md R160). -/
def Obligations.TrainDurationCountsTheSetBits : Prop :=
  ∀ f : Frame,
    ((modulate f).map fun it => it.duration.toNat).sum =
      220130 + 1106 * ((List.finRange 21).map fun k => ((List.finRange 8).filter fun j => f[k][j]).length).sum

/-- The acceptance intervals of the set and the clear bit share no duration for tolerances up to 50 percent and overlap
from 51 on; those of the set bit and the divider share none up to 65 (42_timing_codec.md R151). -/
def Obligations.ToleranceIntervalsOverlapOnlyWhenWide : Prop :=
  (∀ (tol : Fin 101) (o : Nat), tol.val ≤ 50 →
    ¬ (matchDuration tol oneSpace o = true ∧ matchDuration tol zeroSpace o = true)) ∧
  (∀ tol : Fin 101, 51 ≤ tol.val →
    ∃ o : Nat, matchDuration tol oneSpace o = true ∧ matchDuration tol zeroSpace o = true) ∧
  (∀ (tol : Fin 101) (o : Nat), tol.val ≤ 65 →
    ¬ (matchDuration tol oneSpace o = true ∧ matchDuration tol gapSpace o = true))

/-- Round trip of the codec: DEMOD inverts MOD for tolerances up to 66 percent, from 67 every clear bit reads as set, and
up to 50 percent every train whose first 343 items have the levels of MOD's and durations that match them demodulates to
the frame (42_timing_codec.md R171, R168). -/
def Obligations.DemodulationInvertsModulation : Prop :=
  (∀ (tol : Fin 101) (f : Frame), tol.val ≤ 66 → demodulate tol (modulate f) = .ok f) ∧
  (∀ (tol : Fin 101) (f : Frame), 67 ≤ tol.val →
    demodulate tol (modulate f) = .ok (Vector.replicate 21 0xFF)) ∧
  (∀ (tol : Fin 101) (f : Frame) (rx : Train), tol.val ≤ 50 →
    (∀ (i : Nat) (it : Item), (modulate f)[i]? = some it →
      ∃ it' : Item, rx[i]? = some it' ∧ it'.level = it.level ∧
        matchDuration tol it.duration.toNat it'.duration.toNat = true) →
    demodulate tol rx = .ok f)

/-- Items after the footer are not examined: what demodulates still demodulates, to the same frame, with anything appended
(42_timing_codec.md R168). -/
def Obligations.ItemsAfterTheFooterAreIgnored : Prop :=
  ∀ (tol : Fin 101) (rx more : Train) (f : Frame),
    demodulate tol rx = .ok f → demodulate tol (rx ++ more) = .ok f

/-- A train of fewer than 343 items never demodulates; one cut from a well-formed train fails at the mark of the first
symbol that does not fit entirely, the empty one at 0, at any tolerance (42_timing_codec.md R169). -/
def Obligations.ShortTrainsFailAtTheCut : Prop :=
  (∀ (tol : Fin 101) (rx : Train) (f : Frame), rx.length < 343 → demodulate tol rx ≠ .ok f) ∧
  (∀ tol : Fin 101, demodulate tol [] = .fail 0) ∧
  (∀ (tol : Fin 101) (f : Frame) (n : Nat), n < 343 →
    demodulate tol ((modulate f).take n) = .fail (n - n % 2))

/-! ### The pulse symbols -/

/-- A symbol that arrives where it is expected moves the decode on: the cursor passes its items, a set bit is placed in the
frame buffer, and no register changes. Stated for each of the five (30_encoding.md R91 to R95, 42_timing_codec.md R161 to
R165; the symbol as an instruction is the model's reading, log 10; that the pulses are over is log 8). -/
def Obligations.ExpectedSymbolsMoveTheDecodeOn : Prop :=
  ∀ (s : State) (rest : List Place) (k : Fin 21) (j : Fin 8), s.dm.failed = false →
    (s.dm.todo = .hdr :: rest →
      exec .sHdr s = .next { s with publish := false, sink := none,
                                    dm := { s.dm with todo := rest, cur := s.dm.cur + 2 } }) ∧
    (s.dm.todo = .bit k j :: rest →
      exec .sBit1 s = .next { s with publish := false, sink := none,
                                     dm := { s.dm with todo := rest, cur := s.dm.cur + 2,
                                                       frame := s.dm.frame.set k (s.dm.frame[k] + BitVec.ofNat 8 (2 ^ j.val)) } } ∧
      exec .sBit0 s = .next { s with publish := false, sink := none,
                                     dm := { s.dm with todo := rest, cur := s.dm.cur + 2 } }) ∧
    (s.dm.todo = .div :: rest →
      exec .sDiv s = .next { s with publish := false, sink := none,
                                    dm := { s.dm with todo := rest, cur := s.dm.cur + 2 } }) ∧
    (s.dm.todo = .ftr :: rest →
      exec .sFtr s = .next { s with publish := false, sink := none,
                                    dm := { s.dm with todo := rest, cur := s.dm.cur + 1 } })

/-- A symbol that arrives where another is expected fails the decode at the cursor, and a decode that has failed or is
complete takes no further symbol (42_timing_codec.md R167, R168; logs 8 and 10; a symbol of two items at the footer's place
is log 19). -/
def Obligations.UnexpectedSymbolsFailTheDecode : Prop :=
  ∀ (s : State) (y : Symbol),
    (∀ p rest, s.dm.failed = false → s.dm.todo = p :: rest → y ∉ candidates p →
      exec (instrOfSymbol y) s = .next { s with publish := false, sink := none, dm := { s.dm with failed := true } }) ∧
    (s.dm.failed = true ∨ s.dm.todo = [] →
      exec (instrOfSymbol y) s = .next { s with publish := false, sink := none })

/-- Running the symbols of a frame's train one after another from the start of a decode rebuilds the frame, with the cursor
at 343, and changes nothing else but the pulses (30_encoding.md R96, 42_timing_codec.md R163, R166; logs 8 and 10). -/
def Obligations.SymbolsOfATrainRebuildTheFrame : Prop :=
  ∀ (f : Frame) (s : State), s.dm = Demod.start →
    runInstrs (grammar.map fun p => instrOfSymbol (placeSymbol f p)) s =
      .next { s with publish := false, sink := none, dm := ⟨[], 343, f, false⟩ }

/-! ### XMIT -/

/-- XMIT answers a next state from every state: DeviceState takes the operands, PWR becomes `mode != OFF`, the guard is
armed for a full window, PUBLISH is not pulsed, and the results of the last RECV, the pins and the instance's constants stay
(43_encoder.md R182, R194, R200, R201). That a symbol decode in progress stays is the model's choice (log 10). -/
def Obligations.XmitLatchesTheRequestAndArmsTheGuard : Prop :=
  ∀ (m : Mode) (g : Degrees) (f : Fan) (w : Swing) (tc mc sr : Bool) (s : State),
    ∃ t, exec (.xmit m g f w tc mc sr) s = .next t ∧
      t.mode = m ∧ t.target = g ∧ t.fan = f ∧ t.swing = w ∧ t.pwr = isOn m ∧
      t.guard = true ∧ t.gtimer = 1000 ∧ t.publish = false ∧ SameResult s t ∧ SameInputs s t ∧ t.dm = s.dm

/-- The final Cmd, Power, swing bits and Auto6 of the frame by the decision table, and bytes 2, 3 and 8 in terms of their
fields (43_encoder.md R197). -/
def Obligations.XmitFrameFollowsTheDecisionTable : Prop :=
  ∀ (m : Mode) (g : Degrees) (f : Fan) (w : Swing) (tc mc sr : Bool) (s : State),
    ∃ t, exec (.xmit m g f w tc mc sr) s = .next t ∧
      let F := t.frameOut
      let toggled := toggles m s.pwr
      getField F fieldCmd =
        (if sr then 0x07
         else if f ≠ .auto then 0x11
         else if tc && !toggled then 0x02
         else if m = .auto then 0x17
         else if m ≠ .off then 0x06
         else if toggled then 0x01
         else 0x00) ∧
      getField F fieldPower = toggled.toNat ∧ getField F fieldSwing1 = sr.toNat ∧ getField F fieldSwing2 = sr.toNat ∧
      getField F fieldAuto6 =
        (if m = .auto ∧ sr = false ∧ f = .auto ∧ (tc && !toggled) = false then 0x80 else 0x00) ∧
      (F[2]).toNat = getField F fieldFan + 4 * getField F fieldPower + 16 * getField F fieldAto + 128 * sr.toNat ∧
      (F[3]).toNat = getField F fieldMode + 16 * getField F fieldTemp ∧
      (F[8]).toNat = 64 * sr.toNat

/-- The constant bytes of the frame, the mode and fan codes by their tables, and zeros in every bit the encoder does not
drive, those of byte 8 about Swing2 among them (43_encoder.md R183, R185, R189, 30_encoding.md R71 to R75). -/
def Obligations.XmitFrameHoldsConstantsCodesAndZeros : Prop :=
  ∀ (m : Mode) (g : Degrees) (f : Fan) (w : Swing) (tc mc sr : Bool) (s : State),
    ∃ t, exec (.xmit m g f w tc mc sr) s = .next t ∧
      let F := t.frameOut
      F[0] = s.inst.hdr0 ∧ F[1] = s.inst.hdr1 ∧ F[6] = 0x80 ∧
      F[18] = (match s.pins.model with | .j191 => 0x08 | .std => 0x00) ∧
      getField F fieldMode =
        (if m = .heat then 0 else if m = .auto then 1 else if m = .cool then 2 else if m = .dry then 3
         else if m = .fanOnly then 4 else 0) ∧
      getField F fieldFan = (if f = .auto then 0 else if f = .high then 1 else if f = .medium then 2 else 3) ∧
      getField F fieldSleep = 0 ∧ (F[3])[3] = false ∧ (F[8] &&& 0xBF) = 0 ∧ F[5] = 0 ∧ F[7] = 0 ∧ F[9] = 0 ∧ F[10] = 0 ∧ F[11] = 0 ∧ F[12] = 0 ∧ F[14] = 0 ∧
      F[17] = 0 ∧ F[19] = 0

/-- Outside auto mode, OFF included, the Temp field is `clamp(T, TMIN, TMAX) - TMIN`, at most 14, and ATO and PAD1 are 0
(43_encoder.md R187, 30_encoding.md R77). -/
def Obligations.XmitSendsTheClampedTargetOutsideAuto : Prop :=
  ∀ (m : Mode) (g : Degrees) (f : Fan) (w : Swing) (tc mc sr : Bool) (s : State), m ≠ .auto →
    ∃ t, exec (.xmit m g f w tc mc sr) s = .next t ∧
      (getField t.frameOut fieldTemp : Int) =
        clamp g.toInt (tmin s.pins.model) (tmax s.pins.model) - tmin s.pins.model ∧
      getField t.frameOut fieldTemp ≤ 14 ∧
      getField t.frameOut fieldAto = 0 ∧ getField t.frameOut fieldPad1 = 0

/-- In auto mode the Temp field is `25 - TMIN`, and ATO and PAD1 carry AutoEnc of the clamped offset (30_encoding.md R78,
43_encoder.md R186). -/
def Obligations.XmitSpreadsTheAutoTargetOverTwoFields : Prop :=
  ∀ (g : Degrees) (f : Fan) (w : Swing) (tc mc sr : Bool) (s : State),
    ∃ t, exec (.xmit .auto g f w tc mc sr) s = .next t ∧
      let off := clamp g.toInt (tmin s.pins.model + 1) (tmax s.pins.model) - 25
      (getField t.frameOut fieldTemp : Int) = 25 - tmin s.pins.model ∧
      (getField t.frameOut fieldAto : Int) =
        (if off > 0 then clamp (off - 1) 0 2 else if off < 0 then clamp ((-off - 2) + 4) 5 6 else 0) ∧
      (getField t.frameOut fieldPad1 : Int) =
        (if off ≥ 3 then ((off - 3) + 1) * 4 else if off ≤ -3 then ((-off - 3) + 1) * 4 else 0)

/-- The frame leaves with both checksums right, and the sink is invoked with its train at 38000 Hz exactly when TX_EN is 1
(43_encoder.md R192, R193, R195, 41_checksum.md R143). -/
def Obligations.XmitSendsACheckedFrameWhenEnabled : Prop :=
  ∀ (m : Mode) (g : Degrees) (f : Fan) (w : Swing) (tc mc sr : Bool) (s : State),
    ∃ t, exec (.xmit m g f w tc mc sr) s = .next t ∧
      csumChk t.frameOut = (false, false) ∧
      t.sink = (if s.pins.txEn then some ⟨38000, modulate t.frameOut⟩ else none)

/-- A dry run is not free of side effects: with TX_EN = 0 XMIT does all it does with TX_EN = 1 but for invoking the sink
(70_reset_and_hazards.md R324, 60_exceptions.md R296). -/
def Obligations.DryRunDiffersInTheSinkOnly : Prop :=
  ∀ (m : Mode) (g : Degrees) (f : Fan) (w : Swing) (tc mc sr : Bool) (s : State), s.pins.txEn = true →
    ∃ t, exec (.xmit m g f w tc mc sr) s = .next t ∧
      exec (.xmit m g f w tc mc sr) { s with pins := { s.pins with txEn := false } } =
        .next { t with sink := none, pins := { s.pins with txEn := false } }

/-- Two XMITs that differ only in `mc` give the same next state (43_encoder.md R199). -/
def Obligations.ModeChangedFlagHasNoEffect : Prop :=
  ∀ (m : Mode) (g : Degrees) (f : Fan) (w : Swing) (tc sr mc mc' : Bool) (s : State),
    exec (.xmit m g f w tc mc sr) s = exec (.xmit m g f w tc mc' sr) s

/-- The frame depends on nothing but the operands other than `swing` and `mc`, PWR, MODEL and the header constants: not on
DS.SWING, not on the earlier DeviceState, the guard or an earlier frame (43_encoder.md R190, R202, 20_memory.md R66). -/
def Obligations.XmitFrameIgnoresSwingAndHistory : Prop :=
  ∀ (m : Mode) (g : Degrees) (f : Fan) (w w' : Swing) (tc mc sr : Bool) (s s' t t' : State),
    s.pwr = s'.pwr → s.pins.model = s'.pins.model → s.inst.hdr0 = s'.inst.hdr0 → s.inst.hdr1 = s'.inst.hdr1 →
    exec (.xmit m g f w tc mc sr) s = .next t → exec (.xmit m g f w' tc mc sr) s' = .next t' →
    t.frameOut = t'.frameOut

/-- Toggle idempotence: after any XMIT PWR is `mode != OFF`, and a second XMIT with the same on/off intent sends Power = 0
(43_encoder.md R201). -/
def Obligations.RepeatedPowerIntentSendsNoToggle : Prop :=
  ∀ (m m' : Mode) (g g' : Degrees) (f f' : Fan) (w w' : Swing) (tc mc sr tc' mc' sr' : Bool) (s t u : State),
    exec (.xmit m g f w tc mc sr) s = .next t → exec (.xmit m' g' f' w' tc' mc' sr') t = .next u →
    t.pwr = isOn t.mode ∧ (isOn m = isOn m' → getField u.frameOut fieldPower = 0)

/-- The worked example: COOL, 24, HIGH from PWR = 0 under MODEL_J191, for any header bytes (43_encoder.md R203). -/
def Obligations.WorkedXmitExample : Prop :=
  ∀ s : State, s.pwr = false → s.pins.model = .j191 →
    ∃ t, exec (.xmit .cool 24 .high .off false true false) s = .next t ∧
      t.frameOut = #v[s.inst.hdr0, s.inst.hdr1, 0x05, 0x82, 0x00, 0x00, 0x80, 0x00, 0x00, 0x00, 0x00, 0x00, 0x00, 0x07,
        0x00, 0x11, 0x00, 0x00, 0x08, 0x00, 0x19] ∧ t.pwr = true

/-! ### RECV -/

/-- With the guard set, RECV discards the attempt whatever the train is: OK = 0, CAUSE = 1, the guard and its timer are
cleared, and no DeviceState register, PWR or FRAME_OUT changes (44_decoder.md R221, 60_exceptions.md R282). -/
def Obligations.RecvUnderGuardIsSuppressed : Prop :=
  ∀ (rx : Train) (s : State), s.guard = true →
    ∃ t, exec (.recv rx) s = .next t ∧ t.ok = false ∧ t.cause = 1 ∧ t.guard = false ∧ t.gtimer = 0 ∧
      t.publish = false ∧ t.sink = none ∧ SameDevice s t ∧ t.pwr = s.pwr ∧ t.frameOut = s.frameOut ∧ SameInputs s t

/-- A train that does not demodulate ends the RECV with CAUSE = 2 and the cursor of the first mismatch, at most 342, and
no register changes (44_decoder.md R222, 60_exceptions.md R283). -/
def Obligations.RecvReportsTimingMismatch : Prop :=
  ∀ (rx : Train) (pos : Nat) (s : State), s.guard = false → demodulate s.inst.tolPct rx = .fail pos →
    pos ≤ 342 ∧
    ∃ t, exec (.recv rx) s = .next t ∧ t.ok = false ∧ t.cause = 2 ∧ t.info = .pos pos ∧ t.publish = false ∧
      t.sink = none ∧ SameDevice s t ∧ t.pwr = s.pwr ∧ SameGuard s t ∧ t.frameOut = s.frameOut ∧ SameInputs s t

/-- A frame with a wrong checksum ends the RECV with CAUSE = 3 and both check bits, whatever its header bytes, and no
register changes (44_decoder.md R223, 60_exceptions.md R284). -/
def Obligations.RecvReportsChecksumMismatch : Prop :=
  ∀ (rx : Train) (f : Frame) (s : State), s.guard = false → demodulate s.inst.tolPct rx = .ok f →
    csumChk f ≠ (false, false) →
    ∃ t, exec (.recv rx) s = .next t ∧ t.ok = false ∧ t.cause = 3 ∧
      t.info = .sums (f[13] != sum1 f) (f[20] != sum2 f) ∧ t.publish = false ∧
      t.sink = none ∧ SameDevice s t ∧ t.pwr = s.pwr ∧ SameGuard s t ∧ t.frameOut = s.frameOut ∧ SameInputs s t

/-- A frame with right checksums and a wrong header byte ends the RECV with CAUSE = 4 and both header bits, and no register
changes (44_decoder.md R224, 60_exceptions.md R285). -/
def Obligations.RecvReportsHeaderMismatch : Prop :=
  ∀ (rx : Train) (f : Frame) (s : State), s.guard = false → demodulate s.inst.tolPct rx = .ok f →
    csumChk f = (false, false) → f[0] ≠ s.inst.hdr0 ∨ f[1] ≠ s.inst.hdr1 →
    ∃ t, exec (.recv rx) s = .next t ∧ t.ok = false ∧ t.cause = 4 ∧
      t.info = .headers (f[0] != s.inst.hdr0) (f[1] != s.inst.hdr1) ∧ t.publish = false ∧
      t.sink = none ∧ SameDevice s t ∧ t.pwr = s.pwr ∧ SameGuard s t ∧ t.frameOut = s.frameOut ∧ SameInputs s t

/-- RECV ends in exactly one of five ways, with the CAUSE and INFO of each; INFO says nothing after a success or a
suppression (60_exceptions.md R280, R281). -/
def Obligations.RecvEndsInOneOfFiveWays : Prop :=
  ∀ (rx : Train) (s : State), ∃ t, exec (.recv rx) s = .next t ∧ t.publish = t.ok ∧
    ((t.ok = true ∧ t.cause = 0) ∨
     (t.ok = false ∧ t.cause = 1) ∨
     (t.ok = false ∧ t.cause = 2 ∧ ∃ pos, t.info = .pos pos ∧ pos ≤ 342) ∨
     (t.ok = false ∧ t.cause = 3 ∧ ∃ b1 b2, t.info = .sums b1 b2 ∧ (b1 || b2) = true) ∨
     (t.ok = false ∧ t.cause = 4 ∧ ∃ h0 h1, t.info = .headers h0 h1 ∧ (h0 || h1) = true))

/-- A failed RECV leaves DS.MODE, DS.TARGET, DS.FAN, DS.SWING and PWR as they were, and only a suppression changes the guard;
a successful one leaves the guard, which was clear (44_decoder.md R232, 60_exceptions.md R289). -/
def Obligations.FailedRecvChangesNoDeviceState : Prop :=
  ∀ (rx : Train) (s t : State), exec (.recv rx) s = .next t →
    (t.ok = false → SameDevice s t ∧ t.pwr = s.pwr) ∧
    (s.guard = false → SameGuard s t) ∧
    (s.guard = true → t.ok = false ∧ t.cause = 1 ∧ t.guard = false ∧ t.gtimer = 0)

/-- An accepted frame moves PWR and DS.MODE by the table: power toggle first, then the Mode code if the device is now assumed
on (44_decoder.md R225, R226, R234, 30_encoding.md R74). That codes 5 to 7 leave DS.MODE is the spec's own decision D17, which
the model takes in place of the cautious alternative (log 16). -/
def Obligations.RecvMovesPowerAndModeByTheTable : Prop :=
  ∀ (rx : Train) (f : Frame) (s : State), s.guard = false → demodulate s.inst.tolPct rx = .ok f →
    frameAccepted s.inst f = true →
    ∃ t, exec (.recv rx) s = .next t ∧
      let c := getField f fieldMode
      let m : Mode := if c = 0 then .heat else if c = 1 then .auto else if c = 2 then .cool else if c = 3 then .dry
        else if c = 4 then .fanOnly else s.mode
      (getField f fieldPower = 0 → s.pwr = false → t.pwr = false ∧ t.mode = s.mode) ∧
      (getField f fieldPower = 0 → s.pwr = true → t.pwr = true ∧ t.mode = m) ∧
      (getField f fieldPower = 1 → s.pwr = false → t.pwr = true ∧ t.mode = m) ∧
      (getField f fieldPower = 1 → s.pwr = true → t.pwr = false ∧ t.mode = .off)

/-- An accepted frame sets DS.TARGET to the decoded temperature, which lies in -49..99 and so is never cut, and DS.FAN to its
fan code, whatever PWR is; it flips DS.SWING exactly when both swing bits are set and Cmd is 0x07; it pulses PUBLISH with
OK = 1 and CAUSE = 0, and leaves the guard, FRAME_OUT and the inputs (44_decoder.md R227 to R230, 30_encoding.md R75, R79).
That PAD1 / 4 is the floor is the spec's own decision D14 (log 16); that no sink invocation stands is log 8; that the
demodulator's state is at the start afterwards is the model's choice (log 10). -/
def Obligations.RecvInterpretsAnAcceptedFrame : Prop :=
  ∀ (rx : Train) (f : Frame) (s : State), s.guard = false → demodulate s.inst.tolPct rx = .ok f →
    frameAccepted s.inst f = true →
    ∃ t, exec (.recv rx) s = .next t ∧
      (let base : Int := getField f fieldTemp + tmin s.pins.model
       let a : Int := getField f fieldAto
       let p : Int := (getField f fieldPad1 / 4 : Nat)
       t.target.toInt =
        (if getField f fieldMode = 1 then
          (if a = 1 ∨ a = 2 then base + 1 + a + p else if a ≥ 5 then base + 1 - ((a - 4) + p) else base + 1)
         else base)) ∧
      -49 ≤ t.target.toInt ∧ t.target.toInt ≤ 99 ∧
      t.fan = (if getField f fieldFan = 0 then .auto else if getField f fieldFan = 1 then .high
        else if getField f fieldFan = 2 then .medium else .low) ∧
      t.swing = (if getField f fieldSwing1 = 1 ∧ getField f fieldSwing2 = 1 ∧ getField f fieldCmd = 0x07 then
        toggleSwing s.swing else s.swing) ∧
      t.ok = true ∧ t.cause = 0 ∧ t.publish = true ∧ t.sink = none ∧ SameGuard s t ∧ t.frameOut = s.frameOut ∧
      SameInputs s t ∧ t.dm = Demod.start

/-! ### The frame classes -/

/-- Every frame class answers a next state on an accepted frame while the guard is clear, with the effects of steps 5 to
10; stated for each of the eight (30_encoding.md R74, R75, R82 to R89, 44_decoder.md R225 to R230; the frame as an
instruction is the model's reading, log 9; Mode codes 5 to 7 and the floor of PAD1 / 4 are log 16; the outputs are log 8). -/
def Obligations.EveryFrameClassIsInterpreted : Prop :=
  ∀ mk ∈ [Instr.fNone, Instr.fPower, Instr.fTemp, Instr.fMode, Instr.fSwing, Instr.fFan, Instr.fAutoset, Instr.fOther],
  ∀ (f : Frame) (s : State), s.guard = false → frameAccepted s.inst f = true →
    ∃ t, exec (mk f) s = .next t ∧ t.ok = true ∧ t.cause = 0 ∧ t.publish = true ∧
      t.pwr = (if getField f fieldPower = 1 then !s.pwr else s.pwr) ∧
      (let c := getField f fieldMode
       let m : Mode := if c = 0 then .heat else if c = 1 then .auto else if c = 2 then .cool else if c = 3 then .dry
         else if c = 4 then .fanOnly else s.mode
       t.mode = (if t.pwr then m else if getField f fieldPower = 1 then .off else s.mode)) ∧
      t.target.toInt = tempDec s.pins.model f ∧
      t.fan = (if getField f fieldFan = 0 then .auto else if getField f fieldFan = 1 then .high
        else if getField f fieldFan = 2 then .medium else .low) ∧
      t.swing = (if getField f fieldSwing1 = 1 ∧ getField f fieldSwing2 = 1 ∧ getField f fieldCmd = 0x07 then
        toggleSwing s.swing else s.swing) ∧
      t.sink = none ∧ SameGuard s t ∧ t.frameOut = s.frameOut ∧ SameInputs s t

/-- Every frame class is turned away, with no DeviceState register, PWR or FRAME_OUT changed, by the guard, then by a wrong
checksum, then by a wrong header byte, in that order (60_exceptions.md R287; log 9). -/
def Obligations.EveryFrameClassIsCheckedInOrder : Prop :=
  ∀ mk ∈ [Instr.fNone, Instr.fPower, Instr.fTemp, Instr.fMode, Instr.fSwing, Instr.fFan, Instr.fAutoset, Instr.fOther],
  ∀ (f : Frame) (s : State), s.guard = true ∨ frameAccepted s.inst f = false →
    ∃ t, exec (mk f) s = .next t ∧ t.ok = false ∧ t.publish = false ∧
      t.cause = (if s.guard then 1 else if bad1 f || bad2 f then 3 else 4) ∧
      t.guard = false ∧ (s.guard = false → SameGuard s t) ∧ (s.guard = true → t.gtimer = 0) ∧
      t.sink = none ∧ SameDevice s t ∧ t.pwr = s.pwr ∧ t.frameOut = s.frameOut ∧ SameInputs s t

/-- RECV of a train runs the frame class of the frame it demodulates to (20_memory.md R65, 44_decoder.md R231, 30_encoding.md
R89; log 9). -/
def Obligations.RecvRunsTheFrameClassOfItsTrain : Prop :=
  ∀ (rx : Train) (f : Frame) (s : State), demodulate s.inst.tolPct rx = .ok f →
    (instrOfFrame f).wellFormed = true ∧ exec (.recv rx) s = exec (instrOfFrame f) s

/-- RECV of the well-formed train of a frame runs that frame's class, for tolerances up to 66 percent (30_encoding.md R99,
42_timing_codec.md R171, 44_decoder.md R231; log 9). -/
def Obligations.RecvOfAModulatedFrameRunsItsClass : Prop :=
  ∀ (f : Frame) (s : State), s.inst.tolPct.val ≤ 66 →
    exec (.recv (modulate f)) s = exec (instrOfFrame f) s

/-- No instruction but XMIT, RECV and a frame with the swing command changes DS.SWING: of the frame classes only F.SWING can
(30_encoding.md R86, R89, 44_decoder.md R229). -/
def Obligations.OnlySwingFramesToggleSwing : Prop :=
  ∀ (i : Instr) (s t : State), i.wellFormed = true → exec i s = .next t → t.swing ≠ s.swing →
    (∃ f, i = .fSwing f) ∨ (∃ rx f, i = .recv rx ∧ demodulate s.inst.tolPct rx = .ok f ∧ f[15] = 0x07) ∨
    (∃ m g fn w tc mc sr, i = .xmit m g fn w tc mc sr)

/-- Two receptions of a swing frame flip DS.SWING and flip it back (44_decoder.md R235). -/
def Obligations.TwoSwingFramesRestoreTheSwing : Prop :=
  ∀ (rx : Train) (f : Frame) (s : State), s.guard = false → demodulate s.inst.tolPct rx = .ok f →
    frameAccepted s.inst f = true → swingRequested f = true →
    ∃ t u, exec (.recv rx) s = .next t ∧ exec (.recv rx) t = .next u ∧ t.swing ≠ s.swing ∧ u.swing = s.swing

/-- The fields the interpreter does not examine do not matter: two accepted frames that agree on Fan, Power, ATO, Swing1,
Mode, Temp, Swing2, Cmd and PAD1 have the same effect, whatever their Sleep, Auto6, Byte6, byte 18 and unnamed bits
(44_decoder.md R233, 30_encoding.md R73). -/
def Obligations.UnexaminedFieldsDoNotMatter : Prop :=
  ∀ (rx rx' : Train) (f f' : Frame) (s : State),
    demodulate s.inst.tolPct rx = .ok f → demodulate s.inst.tolPct rx' = .ok f' →
    frameAccepted s.inst f = true → frameAccepted s.inst f' = true →
    (∀ x ∈ [fieldFan, fieldPower, fieldAto, fieldSwing1, fieldMode, fieldTemp, fieldSwing2, fieldCmd, fieldPad1],
      getField f x = getField f' x) →
    exec (.recv rx) s = exec (.recv rx') s

/-- A frame built for MODEL_J191 and received under MODEL_STD reads two degrees higher (70_reset_and_hazards.md R328). -/
def Obligations.OtherModelReadsTwoDegreesHigher : Prop :=
  ∀ f : Frame, tempDec .std f = tempDec .j191 f + 2

/-- Of all targets under either model, only those sent as 26 and 27 come back from auto mode as they were sent
(30_encoding.md R80, 70_reset_and_hazards.md R329). -/
def Obligations.OnlyTwoAutoTargetsSurviveTheRoundTrip : Prop :=
  ∀ (m : Model) (g : Degrees) (f : Fan) (w : Swing) (tc mc sr : Bool) (s t : State), s.pins.model = m →
    exec (.xmit .auto g f w tc mc sr) s = .next t →
    (tempDec m t.frameOut = clamp g.toInt (tmin m + 1) (tmax m) ↔
      (clamp g.toInt (tmin m + 1) (tmax m) = 26 ∨ clamp g.toInt (tmin m + 1) (tmax m) = 27))

/-! ### Time, and runs of several operations -/

/-- TICK takes one from a running timer and clears the guard when it runs out, does nothing to a timer that is out, and
touches no DeviceState register, not PWR, and no result of an earlier operation (45_host_ops.md R260). That the pulses of
the operation before are over is the model's choice (log 8), and so is that a symbol decode in progress stays (log 10). -/
def Obligations.TickCountsTheGuardDown : Prop :=
  ∀ s : State, ∃ t, exec .tick s = .next t ∧
    (s.gtimer = 0 → SameGuard s t) ∧
    (s.gtimer ≠ 0 → t.gtimer.toNat = s.gtimer.toNat - 1 ∧
      t.guard = (if s.gtimer = 1 then false else s.guard)) ∧
    SameDevice s t ∧ t.pwr = s.pwr ∧ t.frameOut = s.frameOut ∧ SameResult s t ∧ SameInputs s t ∧ t.dm = s.dm ∧
    t.publish = false ∧ t.sink = none

/-- IDLE changes no register and gives no output (45_host_ops.md R261; that the pulses of the operation before are over is
log 8). -/
def Obligations.IdleChangesNothing : Prop :=
  ∀ s : State, exec .idle s = .next { s with publish := false, sink := none }

/-- Echo suppression: a RECV that follows an XMIT with fewer than 1000 TICKs between is suppressed, whatever its train, and
changes no DeviceState register; after 1000 or more TICKs the guard is clear and RECV runs from step 2 (44_decoder.md
R236). In the last clause, that the pulses of the operation before are over is log 8, and that the demodulator's state is at
the start is log 10. -/
def Obligations.EchoWindowLastsOneThousandTicks : Prop :=
  ∀ (m : Mode) (g : Degrees) (f : Fan) (w : Swing) (tc mc sr : Bool) (n : Nat) (rx : Train) (s : State),
    ∃ t u, runInstrs (.xmit m g f w tc mc sr :: List.replicate n .tick) s = .next t ∧
      exec (.recv rx) t = .next u ∧
      (n < 1000 → u.ok = false ∧ u.cause = 1 ∧ SameDevice t u ∧ u.pwr = t.pwr ∧ u.guard = false ∧
        ∀ rx' v, exec (.recv rx') u = .next v → v.cause ≠ 1) ∧
      (1000 ≤ n → t.guard = false ∧ u.cause ≠ 1 ∧
        u = receiveResult (demodulate t.inst.tolPct rx) { t with publish := false, sink := none, dm := Demod.start })

/-- Round trip between two sessions: what session E sends, a session D of the same model, constants and power belief
receives; mode and fan come back, the target outside auto mode as clamped; for OFF, D ends OFF if it was OFF or the frame
toggled power (44_decoder.md R237, for tolerances up to 66 percent, 42_timing_codec.md R171). -/
def Obligations.SeparateSessionReceivesWhatIsSent : Prop :=
  ∀ (m : Mode) (g : Degrees) (fn : Fan) (w : Swing) (tc mc sr : Bool) (e d : State),
    d.guard = false → d.pwr = e.pwr → d.pins.model = e.pins.model → d.inst = e.inst → d.inst.tolPct.val ≤ 66 →
    ∃ e' d', exec (.xmit m g fn w tc mc sr) e = .next e' ∧ exec (.recv (modulate e'.frameOut)) d = .next d' ∧
      d'.ok = true ∧ d'.fan = fn ∧ d'.pwr = isOn m ∧
      (m ≠ .off → d'.mode = m) ∧
      (m = .off → d.mode = .off ∨ e.pwr = true → d'.mode = .off) ∧
      (m ≠ .auto → d'.target.toInt = clamp g.toInt (tmin e.pins.model) (tmax e.pins.model)) ∧
      (m = .auto → d'.target.toInt = autoDec 25 (autoEnc (autoOffset e.pins.model g.toInt)).1.toNat
        (autoEnc (autoOffset e.pins.model g.toInt)).2.toNat)

/-- The loop-back hazard: a codec that turns the device on, waits out the guard and receives its own frame reads it as a
power-off (70_reset_and_hazards.md R323, for tolerances up to 66 percent, 42_timing_codec.md R171). -/
def Obligations.OwnPowerOnFrameHeardLateTurnsOff : Prop :=
  ∀ (m : Mode) (g : Degrees) (fn : Fan) (w : Swing) (tc mc sr : Bool) (n : Nat) (s : State),
    m ≠ .off → s.pwr = false → 1000 ≤ n → s.inst.tolPct.val ≤ 66 →
    ∃ t u, runInstrs (.xmit m g fn w tc mc sr :: List.replicate n .tick) s = .next t ∧ t.pwr = true ∧ t.mode = m ∧
      exec (.recv (modulate t.frameOut)) t = .next u ∧ u.ok = true ∧ u.pwr = false ∧ u.mode = .off ∧
      u.swing = (if sr then toggleSwing w else w)

/-- Who writes what: only XMIT sets the guard or FRAME_OUT, and only XMIT and a successful reception change a DeviceState
register or PWR; no instruction changes the pins or the instance's constants (10_state.md R40, R30; 43_encoder.md R200,
44_decoder.md R232, 45_host_ops.md R260, R261). -/
def Obligations.OnlyTheListedOperationsWriteState : Prop :=
  ∀ (i : Instr) (s t : State), exec i s = .next t →
    (s.guard = false → t.guard = true → ∃ m g f w tc mc sr, i = .xmit m g f w tc mc sr) ∧
    (¬ (SameDevice s t ∧ t.pwr = s.pwr) → (∃ m g f w tc mc sr, i = .xmit m g f w tc mc sr) ∨ t.publish = true) ∧
    (t.frameOut ≠ s.frameOut → ∃ m g f w tc mc sr, i = .xmit m g f w tc mc sr) ∧
    t.pins = s.pins ∧ t.inst = s.inst
end

