-- ==== Sys2Proof/Laws/State.lean ====
section
/-! SUPPORT. One lemma per field of State and per update: what the update makes of that field. -/

namespace Sys2Proof.Machine

variable (s : State)

/-! ### beginOp -/

@[simp] theorem beginOp_mode : (beginOp s).mode = s.mode := rfl
@[simp] theorem beginOp_target : (beginOp s).target = s.target := rfl
@[simp] theorem beginOp_fan : (beginOp s).fan = s.fan := rfl
@[simp] theorem beginOp_swing : (beginOp s).swing = s.swing := rfl
@[simp] theorem beginOp_pwr : (beginOp s).pwr = s.pwr := rfl
@[simp] theorem beginOp_guard : (beginOp s).guard = s.guard := rfl
@[simp] theorem beginOp_gtimer : (beginOp s).gtimer = s.gtimer := rfl
@[simp] theorem beginOp_frameOut : (beginOp s).frameOut = s.frameOut := rfl
@[simp] theorem beginOp_ok : (beginOp s).ok = s.ok := rfl
@[simp] theorem beginOp_cause : (beginOp s).cause = s.cause := rfl
@[simp] theorem beginOp_info : (beginOp s).info = s.info := rfl
@[simp] theorem beginOp_publish : (beginOp s).publish = false := rfl
@[simp] theorem beginOp_sink : (beginOp s).sink = none := rfl
@[simp] theorem beginOp_dm : (beginOp s).dm = s.dm := rfl
@[simp] theorem beginOp_pins : (beginOp s).pins = s.pins := rfl
@[simp] theorem beginOp_inst : (beginOp s).inst = s.inst := rfl
@[simp] theorem beginOp_port : (beginOp s).port = s.port := rfl
@[simp] theorem beginOp_freeCount : (beginOp s).freeCount = s.freeCount := rfl

/-! ### armGuard -/

@[simp] theorem armGuard_mode : (armGuard s).mode = s.mode := rfl
@[simp] theorem armGuard_target : (armGuard s).target = s.target := rfl
@[simp] theorem armGuard_fan : (armGuard s).fan = s.fan := rfl
@[simp] theorem armGuard_swing : (armGuard s).swing = s.swing := rfl
@[simp] theorem armGuard_pwr : (armGuard s).pwr = s.pwr := rfl
@[simp] theorem armGuard_guard : (armGuard s).guard = true := rfl
@[simp] theorem armGuard_gtimer : (armGuard s).gtimer = guardWindow := rfl
@[simp] theorem armGuard_frameOut : (armGuard s).frameOut = s.frameOut := rfl
@[simp] theorem armGuard_ok : (armGuard s).ok = s.ok := rfl
@[simp] theorem armGuard_cause : (armGuard s).cause = s.cause := rfl
@[simp] theorem armGuard_info : (armGuard s).info = s.info := rfl
@[simp] theorem armGuard_publish : (armGuard s).publish = s.publish := rfl
@[simp] theorem armGuard_sink : (armGuard s).sink = s.sink := rfl
@[simp] theorem armGuard_dm : (armGuard s).dm = s.dm := rfl
@[simp] theorem armGuard_pins : (armGuard s).pins = s.pins := rfl
@[simp] theorem armGuard_inst : (armGuard s).inst = s.inst := rfl
@[simp] theorem armGuard_port : (armGuard s).port = s.port := rfl
@[simp] theorem armGuard_freeCount : (armGuard s).freeCount = s.freeCount := rfl

/-! ### clearGuard -/

@[simp] theorem clearGuard_mode : (clearGuard s).mode = s.mode := rfl
@[simp] theorem clearGuard_target : (clearGuard s).target = s.target := rfl
@[simp] theorem clearGuard_fan : (clearGuard s).fan = s.fan := rfl
@[simp] theorem clearGuard_swing : (clearGuard s).swing = s.swing := rfl
@[simp] theorem clearGuard_pwr : (clearGuard s).pwr = s.pwr := rfl
@[simp] theorem clearGuard_guard : (clearGuard s).guard = false := rfl
@[simp] theorem clearGuard_gtimer : (clearGuard s).gtimer = 0 := rfl
@[simp] theorem clearGuard_frameOut : (clearGuard s).frameOut = s.frameOut := rfl
@[simp] theorem clearGuard_ok : (clearGuard s).ok = s.ok := rfl
@[simp] theorem clearGuard_cause : (clearGuard s).cause = s.cause := rfl
@[simp] theorem clearGuard_info : (clearGuard s).info = s.info := rfl
@[simp] theorem clearGuard_publish : (clearGuard s).publish = s.publish := rfl
@[simp] theorem clearGuard_sink : (clearGuard s).sink = s.sink := rfl
@[simp] theorem clearGuard_dm : (clearGuard s).dm = s.dm := rfl
@[simp] theorem clearGuard_pins : (clearGuard s).pins = s.pins := rfl
@[simp] theorem clearGuard_inst : (clearGuard s).inst = s.inst := rfl
@[simp] theorem clearGuard_port : (clearGuard s).port = s.port := rfl
@[simp] theorem clearGuard_freeCount : (clearGuard s).freeCount = s.freeCount := rfl

/-! ### tickGuard -/

@[simp] theorem tickGuard_mode : (tickGuard s).mode = s.mode := by unfold tickGuard; split <;> rfl
@[simp] theorem tickGuard_target : (tickGuard s).target = s.target := by unfold tickGuard; split <;> rfl
@[simp] theorem tickGuard_fan : (tickGuard s).fan = s.fan := by unfold tickGuard; split <;> rfl
@[simp] theorem tickGuard_swing : (tickGuard s).swing = s.swing := by unfold tickGuard; split <;> rfl
@[simp] theorem tickGuard_pwr : (tickGuard s).pwr = s.pwr := by unfold tickGuard; split <;> rfl
@[simp] theorem tickGuard_guard : (tickGuard s).guard = if s.gtimer = 0 then s.guard else if s.gtimer - 1 = 0 then false else s.guard :=
  by unfold tickGuard; (repeat' split) <;> simp_all
@[simp] theorem tickGuard_gtimer : (tickGuard s).gtimer = if s.gtimer = 0 then s.gtimer else s.gtimer - 1 :=
  by unfold tickGuard; (repeat' split) <;> simp_all
@[simp] theorem tickGuard_frameOut : (tickGuard s).frameOut = s.frameOut := by unfold tickGuard; split <;> rfl
@[simp] theorem tickGuard_ok : (tickGuard s).ok = s.ok := by unfold tickGuard; split <;> rfl
@[simp] theorem tickGuard_cause : (tickGuard s).cause = s.cause := by unfold tickGuard; split <;> rfl
@[simp] theorem tickGuard_info : (tickGuard s).info = s.info := by unfold tickGuard; split <;> rfl
@[simp] theorem tickGuard_publish : (tickGuard s).publish = s.publish := by unfold tickGuard; split <;> rfl
@[simp] theorem tickGuard_sink : (tickGuard s).sink = s.sink := by unfold tickGuard; split <;> rfl
@[simp] theorem tickGuard_dm : (tickGuard s).dm = s.dm := by unfold tickGuard; split <;> rfl
@[simp] theorem tickGuard_pins : (tickGuard s).pins = s.pins := by unfold tickGuard; split <;> rfl
@[simp] theorem tickGuard_inst : (tickGuard s).inst = s.inst := by unfold tickGuard; split <;> rfl
@[simp] theorem tickGuard_port : (tickGuard s).port = s.port := by unfold tickGuard; split <;> rfl
@[simp] theorem tickGuard_freeCount : (tickGuard s).freeCount = s.freeCount := by unfold tickGuard; split <;> rfl

/-! ### raise -/

@[simp] theorem raise_mode (c : BitVec 3) (x : Info) : (raise c x s).mode = s.mode := rfl
@[simp] theorem raise_target (c : BitVec 3) (x : Info) : (raise c x s).target = s.target := rfl
@[simp] theorem raise_fan (c : BitVec 3) (x : Info) : (raise c x s).fan = s.fan := rfl
@[simp] theorem raise_swing (c : BitVec 3) (x : Info) : (raise c x s).swing = s.swing := rfl
@[simp] theorem raise_pwr (c : BitVec 3) (x : Info) : (raise c x s).pwr = s.pwr := rfl
@[simp] theorem raise_guard (c : BitVec 3) (x : Info) : (raise c x s).guard = s.guard := rfl
@[simp] theorem raise_gtimer (c : BitVec 3) (x : Info) : (raise c x s).gtimer = s.gtimer := rfl
@[simp] theorem raise_frameOut (c : BitVec 3) (x : Info) : (raise c x s).frameOut = s.frameOut := rfl
@[simp] theorem raise_ok (c : BitVec 3) (x : Info) : (raise c x s).ok = false := rfl
@[simp] theorem raise_cause (c : BitVec 3) (x : Info) : (raise c x s).cause = c := rfl
@[simp] theorem raise_info (c : BitVec 3) (x : Info) : (raise c x s).info = x := rfl
@[simp] theorem raise_publish (c : BitVec 3) (x : Info) : (raise c x s).publish = false := rfl
@[simp] theorem raise_sink (c : BitVec 3) (x : Info) : (raise c x s).sink = s.sink := rfl
@[simp] theorem raise_dm (c : BitVec 3) (x : Info) : (raise c x s).dm = s.dm := rfl
@[simp] theorem raise_pins (c : BitVec 3) (x : Info) : (raise c x s).pins = s.pins := rfl
@[simp] theorem raise_inst (c : BitVec 3) (x : Info) : (raise c x s).inst = s.inst := rfl
@[simp] theorem raise_port (c : BitVec 3) (x : Info) : (raise c x s).port = s.port := rfl
@[simp] theorem raise_freeCount (c : BitVec 3) (x : Info) : (raise c x s).freeCount = s.freeCount := rfl

/-! ### raiseNoInfo -/

@[simp] theorem raiseNoInfo_mode (c : BitVec 3) : (raiseNoInfo c s).mode = s.mode := rfl
@[simp] theorem raiseNoInfo_target (c : BitVec 3) : (raiseNoInfo c s).target = s.target := rfl
@[simp] theorem raiseNoInfo_fan (c : BitVec 3) : (raiseNoInfo c s).fan = s.fan := rfl
@[simp] theorem raiseNoInfo_swing (c : BitVec 3) : (raiseNoInfo c s).swing = s.swing := rfl
@[simp] theorem raiseNoInfo_pwr (c : BitVec 3) : (raiseNoInfo c s).pwr = s.pwr := rfl
@[simp] theorem raiseNoInfo_guard (c : BitVec 3) : (raiseNoInfo c s).guard = s.guard := rfl
@[simp] theorem raiseNoInfo_gtimer (c : BitVec 3) : (raiseNoInfo c s).gtimer = s.gtimer := rfl
@[simp] theorem raiseNoInfo_frameOut (c : BitVec 3) : (raiseNoInfo c s).frameOut = s.frameOut := rfl
@[simp] theorem raiseNoInfo_ok (c : BitVec 3) : (raiseNoInfo c s).ok = false := rfl
@[simp] theorem raiseNoInfo_cause (c : BitVec 3) : (raiseNoInfo c s).cause = c := rfl
@[simp] theorem raiseNoInfo_info (c : BitVec 3) : (raiseNoInfo c s).info = Config.freeInfo s.freeCount := rfl
@[simp] theorem raiseNoInfo_publish (c : BitVec 3) : (raiseNoInfo c s).publish = false := rfl
@[simp] theorem raiseNoInfo_sink (c : BitVec 3) : (raiseNoInfo c s).sink = s.sink := rfl
@[simp] theorem raiseNoInfo_dm (c : BitVec 3) : (raiseNoInfo c s).dm = s.dm := rfl
@[simp] theorem raiseNoInfo_pins (c : BitVec 3) : (raiseNoInfo c s).pins = s.pins := rfl
@[simp] theorem raiseNoInfo_inst (c : BitVec 3) : (raiseNoInfo c s).inst = s.inst := rfl
@[simp] theorem raiseNoInfo_port (c : BitVec 3) : (raiseNoInfo c s).port = s.port := rfl
@[simp] theorem raiseNoInfo_freeCount (c : BitVec 3) : (raiseNoInfo c s).freeCount = s.freeCount + 1 := rfl

/-! ### publishOk -/

@[simp] theorem publishOk_mode : (publishOk s).mode = s.mode := rfl
@[simp] theorem publishOk_target : (publishOk s).target = s.target := rfl
@[simp] theorem publishOk_fan : (publishOk s).fan = s.fan := rfl
@[simp] theorem publishOk_swing : (publishOk s).swing = s.swing := rfl
@[simp] theorem publishOk_pwr : (publishOk s).pwr = s.pwr := rfl
@[simp] theorem publishOk_guard : (publishOk s).guard = s.guard := rfl
@[simp] theorem publishOk_gtimer : (publishOk s).gtimer = s.gtimer := rfl
@[simp] theorem publishOk_frameOut : (publishOk s).frameOut = s.frameOut := rfl
@[simp] theorem publishOk_ok : (publishOk s).ok = true := rfl
@[simp] theorem publishOk_cause : (publishOk s).cause = causeSuccess := rfl
@[simp] theorem publishOk_info : (publishOk s).info = Config.freeInfo s.freeCount := rfl
@[simp] theorem publishOk_publish : (publishOk s).publish = true := rfl
@[simp] theorem publishOk_sink : (publishOk s).sink = s.sink := rfl
@[simp] theorem publishOk_dm : (publishOk s).dm = s.dm := rfl
@[simp] theorem publishOk_pins : (publishOk s).pins = s.pins := rfl
@[simp] theorem publishOk_inst : (publishOk s).inst = s.inst := rfl
@[simp] theorem publishOk_port : (publishOk s).port = s.port := rfl
@[simp] theorem publishOk_freeCount : (publishOk s).freeCount = s.freeCount + 1 := rfl

/-! ### restartDemod -/

@[simp] theorem restartDemod_mode : (restartDemod s).mode = s.mode := rfl
@[simp] theorem restartDemod_target : (restartDemod s).target = s.target := rfl
@[simp] theorem restartDemod_fan : (restartDemod s).fan = s.fan := rfl
@[simp] theorem restartDemod_swing : (restartDemod s).swing = s.swing := rfl
@[simp] theorem restartDemod_pwr : (restartDemod s).pwr = s.pwr := rfl
@[simp] theorem restartDemod_guard : (restartDemod s).guard = s.guard := rfl
@[simp] theorem restartDemod_gtimer : (restartDemod s).gtimer = s.gtimer := rfl
@[simp] theorem restartDemod_frameOut : (restartDemod s).frameOut = s.frameOut := rfl
@[simp] theorem restartDemod_ok : (restartDemod s).ok = s.ok := rfl
@[simp] theorem restartDemod_cause : (restartDemod s).cause = s.cause := rfl
@[simp] theorem restartDemod_info : (restartDemod s).info = s.info := rfl
@[simp] theorem restartDemod_publish : (restartDemod s).publish = s.publish := rfl
@[simp] theorem restartDemod_sink : (restartDemod s).sink = s.sink := rfl
@[simp] theorem restartDemod_dm : (restartDemod s).dm = Demod.start := rfl
@[simp] theorem restartDemod_pins : (restartDemod s).pins = s.pins := rfl
@[simp] theorem restartDemod_inst : (restartDemod s).inst = s.inst := rfl
@[simp] theorem restartDemod_port : (restartDemod s).port = s.port := rfl
@[simp] theorem restartDemod_freeCount : (restartDemod s).freeCount = s.freeCount := rfl

/-! ### acceptSymbol -/

@[simp] theorem acceptSymbol_mode (y : Symbol) : (acceptSymbol y s).mode = s.mode := rfl
@[simp] theorem acceptSymbol_target (y : Symbol) : (acceptSymbol y s).target = s.target := rfl
@[simp] theorem acceptSymbol_fan (y : Symbol) : (acceptSymbol y s).fan = s.fan := rfl
@[simp] theorem acceptSymbol_swing (y : Symbol) : (acceptSymbol y s).swing = s.swing := rfl
@[simp] theorem acceptSymbol_pwr (y : Symbol) : (acceptSymbol y s).pwr = s.pwr := rfl
@[simp] theorem acceptSymbol_guard (y : Symbol) : (acceptSymbol y s).guard = s.guard := rfl
@[simp] theorem acceptSymbol_gtimer (y : Symbol) : (acceptSymbol y s).gtimer = s.gtimer := rfl
@[simp] theorem acceptSymbol_frameOut (y : Symbol) : (acceptSymbol y s).frameOut = s.frameOut := rfl
@[simp] theorem acceptSymbol_ok (y : Symbol) : (acceptSymbol y s).ok = s.ok := rfl
@[simp] theorem acceptSymbol_cause (y : Symbol) : (acceptSymbol y s).cause = s.cause := rfl
@[simp] theorem acceptSymbol_info (y : Symbol) : (acceptSymbol y s).info = s.info := rfl
@[simp] theorem acceptSymbol_publish (y : Symbol) : (acceptSymbol y s).publish = false := rfl
@[simp] theorem acceptSymbol_sink (y : Symbol) : (acceptSymbol y s).sink = none := rfl
@[simp] theorem acceptSymbol_dm (y : Symbol) : (acceptSymbol y s).dm = s.dm.accept y := rfl
@[simp] theorem acceptSymbol_pins (y : Symbol) : (acceptSymbol y s).pins = s.pins := rfl
@[simp] theorem acceptSymbol_inst (y : Symbol) : (acceptSymbol y s).inst = s.inst := rfl
@[simp] theorem acceptSymbol_port (y : Symbol) : (acceptSymbol y s).port = s.port := rfl
@[simp] theorem acceptSymbol_freeCount (y : Symbol) : (acceptSymbol y s).freeCount = s.freeCount := rfl

/-! ### mismatchSymbol -/

@[simp] theorem mismatchSymbol_mode : (mismatchSymbol s).mode = s.mode := rfl
@[simp] theorem mismatchSymbol_target : (mismatchSymbol s).target = s.target := rfl
@[simp] theorem mismatchSymbol_fan : (mismatchSymbol s).fan = s.fan := rfl
@[simp] theorem mismatchSymbol_swing : (mismatchSymbol s).swing = s.swing := rfl
@[simp] theorem mismatchSymbol_pwr : (mismatchSymbol s).pwr = s.pwr := rfl
@[simp] theorem mismatchSymbol_guard : (mismatchSymbol s).guard = s.guard := rfl
@[simp] theorem mismatchSymbol_gtimer : (mismatchSymbol s).gtimer = s.gtimer := rfl
@[simp] theorem mismatchSymbol_frameOut : (mismatchSymbol s).frameOut = s.frameOut := rfl
@[simp] theorem mismatchSymbol_ok : (mismatchSymbol s).ok = s.ok := rfl
@[simp] theorem mismatchSymbol_cause : (mismatchSymbol s).cause = s.cause := rfl
@[simp] theorem mismatchSymbol_info : (mismatchSymbol s).info = s.info := rfl
@[simp] theorem mismatchSymbol_publish : (mismatchSymbol s).publish = false := rfl
@[simp] theorem mismatchSymbol_sink : (mismatchSymbol s).sink = none := rfl
@[simp] theorem mismatchSymbol_dm : (mismatchSymbol s).dm = s.dm.fail := rfl
@[simp] theorem mismatchSymbol_pins : (mismatchSymbol s).pins = s.pins := rfl
@[simp] theorem mismatchSymbol_inst : (mismatchSymbol s).inst = s.inst := rfl
@[simp] theorem mismatchSymbol_port : (mismatchSymbol s).port = s.port := rfl
@[simp] theorem mismatchSymbol_freeCount : (mismatchSymbol s).freeCount = s.freeCount := rfl

/-! ### assertReset -/

@[simp] theorem assertReset_mode : (assertReset s).mode = .off := rfl
@[simp] theorem assertReset_target : (assertReset s).target = Config.freeTarget s.freeCount := rfl
@[simp] theorem assertReset_fan : (assertReset s).fan = .auto := rfl
@[simp] theorem assertReset_swing : (assertReset s).swing = .off := rfl
@[simp] theorem assertReset_pwr : (assertReset s).pwr = false := rfl
@[simp] theorem assertReset_guard : (assertReset s).guard = false := rfl
@[simp] theorem assertReset_gtimer : (assertReset s).gtimer = 0 := rfl
@[simp] theorem assertReset_frameOut : (assertReset s).frameOut = Config.freeFrame s.freeCount := rfl
@[simp] theorem assertReset_ok : (assertReset s).ok = Config.freeOk s.freeCount := rfl
@[simp] theorem assertReset_cause : (assertReset s).cause = Config.freeCause s.freeCount := rfl
@[simp] theorem assertReset_info : (assertReset s).info = Config.freeInfo s.freeCount := rfl
@[simp] theorem assertReset_publish : (assertReset s).publish = false := rfl
@[simp] theorem assertReset_sink : (assertReset s).sink = none := rfl
@[simp] theorem assertReset_dm : (assertReset s).dm = Demod.start := rfl
@[simp] theorem assertReset_pins : (assertReset s).pins = s.pins := rfl
@[simp] theorem assertReset_inst : (assertReset s).inst = s.inst := rfl
@[simp] theorem assertReset_port : (assertReset s).port = s.port := rfl
@[simp] theorem assertReset_freeCount : (assertReset s).freeCount = s.freeCount + 1 := rfl

/-! ### drivePins -/

@[simp] theorem drivePins_mode (p : Pins) : (drivePins p s).mode = s.mode := rfl
@[simp] theorem drivePins_target (p : Pins) : (drivePins p s).target = s.target := rfl
@[simp] theorem drivePins_fan (p : Pins) : (drivePins p s).fan = s.fan := rfl
@[simp] theorem drivePins_swing (p : Pins) : (drivePins p s).swing = s.swing := rfl
@[simp] theorem drivePins_pwr (p : Pins) : (drivePins p s).pwr = s.pwr := rfl
@[simp] theorem drivePins_guard (p : Pins) : (drivePins p s).guard = s.guard := rfl
@[simp] theorem drivePins_gtimer (p : Pins) : (drivePins p s).gtimer = s.gtimer := rfl
@[simp] theorem drivePins_frameOut (p : Pins) : (drivePins p s).frameOut = s.frameOut := rfl
@[simp] theorem drivePins_ok (p : Pins) : (drivePins p s).ok = s.ok := rfl
@[simp] theorem drivePins_cause (p : Pins) : (drivePins p s).cause = s.cause := rfl
@[simp] theorem drivePins_info (p : Pins) : (drivePins p s).info = s.info := rfl
@[simp] theorem drivePins_publish (p : Pins) : (drivePins p s).publish = s.publish := rfl
@[simp] theorem drivePins_sink (p : Pins) : (drivePins p s).sink = s.sink := rfl
@[simp] theorem drivePins_dm (p : Pins) : (drivePins p s).dm = s.dm := rfl
@[simp] theorem drivePins_pins (p : Pins) : (drivePins p s).pins = p := rfl
@[simp] theorem drivePins_inst (p : Pins) : (drivePins p s).inst = s.inst := rfl
@[simp] theorem drivePins_port (p : Pins) : (drivePins p s).port = s.port := rfl
@[simp] theorem drivePins_freeCount (p : Pins) : (drivePins p s).freeCount = s.freeCount := rfl

/-! ### latchRequest -/

@[simp] theorem latchRequest_mode (m : Mode) (g : Degrees) (f : Fan) (w : Swing) : (latchRequest m g f w s).mode = m :=
  rfl
@[simp] theorem latchRequest_target (m : Mode) (g : Degrees) (f : Fan) (w : Swing) : (latchRequest m g f w s).target = g :=
  rfl
@[simp] theorem latchRequest_fan (m : Mode) (g : Degrees) (f : Fan) (w : Swing) : (latchRequest m g f w s).fan = f :=
  rfl
@[simp] theorem latchRequest_swing (m : Mode) (g : Degrees) (f : Fan) (w : Swing) : (latchRequest m g f w s).swing = w :=
  rfl
@[simp] theorem latchRequest_pwr (m : Mode) (g : Degrees) (f : Fan) (w : Swing) : (latchRequest m g f w s).pwr = s.pwr :=
  rfl
@[simp] theorem latchRequest_guard (m : Mode) (g : Degrees) (f : Fan) (w : Swing) : (latchRequest m g f w s).guard = s.guard :=
  rfl
@[simp] theorem latchRequest_gtimer (m : Mode) (g : Degrees) (f : Fan) (w : Swing) : (latchRequest m g f w s).gtimer = s.gtimer :=
  rfl
@[simp] theorem latchRequest_frameOut (m : Mode) (g : Degrees) (f : Fan) (w : Swing) : (latchRequest m g f w s).frameOut = s.frameOut :=
  rfl
@[simp] theorem latchRequest_ok (m : Mode) (g : Degrees) (f : Fan) (w : Swing) : (latchRequest m g f w s).ok = s.ok :=
  rfl
@[simp] theorem latchRequest_cause (m : Mode) (g : Degrees) (f : Fan) (w : Swing) : (latchRequest m g f w s).cause = s.cause :=
  rfl
@[simp] theorem latchRequest_info (m : Mode) (g : Degrees) (f : Fan) (w : Swing) : (latchRequest m g f w s).info = s.info :=
  rfl
@[simp] theorem latchRequest_publish (m : Mode) (g : Degrees) (f : Fan) (w : Swing) : (latchRequest m g f w s).publish = s.publish :=
  rfl
@[simp] theorem latchRequest_sink (m : Mode) (g : Degrees) (f : Fan) (w : Swing) : (latchRequest m g f w s).sink = s.sink :=
  rfl
@[simp] theorem latchRequest_dm (m : Mode) (g : Degrees) (f : Fan) (w : Swing) : (latchRequest m g f w s).dm = s.dm :=
  rfl
@[simp] theorem latchRequest_pins (m : Mode) (g : Degrees) (f : Fan) (w : Swing) : (latchRequest m g f w s).pins = s.pins :=
  rfl
@[simp] theorem latchRequest_inst (m : Mode) (g : Degrees) (f : Fan) (w : Swing) : (latchRequest m g f w s).inst = s.inst :=
  rfl
@[simp] theorem latchRequest_port (m : Mode) (g : Degrees) (f : Fan) (w : Swing) : (latchRequest m g f w s).port = s.port :=
  rfl
@[simp] theorem latchRequest_freeCount (m : Mode) (g : Degrees) (f : Fan) (w : Swing) : (latchRequest m g f w s).freeCount = s.freeCount :=
  rfl

/-! ### updatePower -/

@[simp] theorem updatePower_mode (m : Mode) : (updatePower m s).mode = s.mode := by unfold updatePower; split <;> rfl
@[simp] theorem updatePower_target (m : Mode) : (updatePower m s).target = s.target :=
  by unfold updatePower; split <;> rfl
@[simp] theorem updatePower_fan (m : Mode) : (updatePower m s).fan = s.fan := by unfold updatePower; split <;> rfl
@[simp] theorem updatePower_swing (m : Mode) : (updatePower m s).swing = s.swing :=
  by unfold updatePower; split <;> rfl
@[simp] theorem updatePower_pwr (m : Mode) : (updatePower m s).pwr = isOn m := by
  unfold updatePower toggles; cases h : isOn m <;> cases hp : s.pwr <;> simp_all
@[simp] theorem updatePower_guard (m : Mode) : (updatePower m s).guard = s.guard :=
  by unfold updatePower; split <;> rfl
@[simp] theorem updatePower_gtimer (m : Mode) : (updatePower m s).gtimer = s.gtimer :=
  by unfold updatePower; split <;> rfl
@[simp] theorem updatePower_frameOut (m : Mode) : (updatePower m s).frameOut = s.frameOut :=
  by unfold updatePower; split <;> rfl
@[simp] theorem updatePower_ok (m : Mode) : (updatePower m s).ok = s.ok := by unfold updatePower; split <;> rfl
@[simp] theorem updatePower_cause (m : Mode) : (updatePower m s).cause = s.cause :=
  by unfold updatePower; split <;> rfl
@[simp] theorem updatePower_info (m : Mode) : (updatePower m s).info = s.info := by unfold updatePower; split <;> rfl
@[simp] theorem updatePower_publish (m : Mode) : (updatePower m s).publish = s.publish :=
  by unfold updatePower; split <;> rfl
@[simp] theorem updatePower_sink (m : Mode) : (updatePower m s).sink = s.sink := by unfold updatePower; split <;> rfl
@[simp] theorem updatePower_dm (m : Mode) : (updatePower m s).dm = s.dm := by unfold updatePower; split <;> rfl
@[simp] theorem updatePower_pins (m : Mode) : (updatePower m s).pins = s.pins := by unfold updatePower; split <;> rfl
@[simp] theorem updatePower_inst (m : Mode) : (updatePower m s).inst = s.inst := by unfold updatePower; split <;> rfl
@[simp] theorem updatePower_port (m : Mode) : (updatePower m s).port = s.port := by unfold updatePower; split <;> rfl
@[simp] theorem updatePower_freeCount (m : Mode) : (updatePower m s).freeCount = s.freeCount :=
  by unfold updatePower; split <;> rfl

/-! ### presentFrame -/

@[simp] theorem presentFrame_mode (f : Frame) : (presentFrame f s).mode = s.mode := rfl
@[simp] theorem presentFrame_target (f : Frame) : (presentFrame f s).target = s.target := rfl
@[simp] theorem presentFrame_fan (f : Frame) : (presentFrame f s).fan = s.fan := rfl
@[simp] theorem presentFrame_swing (f : Frame) : (presentFrame f s).swing = s.swing := rfl
@[simp] theorem presentFrame_pwr (f : Frame) : (presentFrame f s).pwr = s.pwr := rfl
@[simp] theorem presentFrame_guard (f : Frame) : (presentFrame f s).guard = s.guard := rfl
@[simp] theorem presentFrame_gtimer (f : Frame) : (presentFrame f s).gtimer = s.gtimer := rfl
@[simp] theorem presentFrame_frameOut (f : Frame) : (presentFrame f s).frameOut = f := rfl
@[simp] theorem presentFrame_ok (f : Frame) : (presentFrame f s).ok = s.ok := rfl
@[simp] theorem presentFrame_cause (f : Frame) : (presentFrame f s).cause = s.cause := rfl
@[simp] theorem presentFrame_info (f : Frame) : (presentFrame f s).info = s.info := rfl
@[simp] theorem presentFrame_publish (f : Frame) : (presentFrame f s).publish = s.publish := rfl
@[simp] theorem presentFrame_sink (f : Frame) : (presentFrame f s).sink = if s.pins.txEn then some ⟨carrierHz, modulate f⟩ else none :=
  rfl
@[simp] theorem presentFrame_dm (f : Frame) : (presentFrame f s).dm = s.dm := rfl
@[simp] theorem presentFrame_pins (f : Frame) : (presentFrame f s).pins = s.pins := rfl
@[simp] theorem presentFrame_inst (f : Frame) : (presentFrame f s).inst = s.inst := rfl
@[simp] theorem presentFrame_port (f : Frame) : (presentFrame f s).port = s.port := rfl
@[simp] theorem presentFrame_freeCount (f : Frame) : (presentFrame f s).freeCount = s.freeCount := rfl

/-! ### interpretPower -/

@[simp] theorem interpretPower_mode (f : Frame) : (interpretPower f s).mode = if getField f fieldPower = 1 ∧ s.pwr = true then .off else s.mode :=
  by unfold interpretPower; (repeat' split) <;> simp_all
@[simp] theorem interpretPower_target (f : Frame) : (interpretPower f s).target = s.target :=
  by unfold interpretPower; (repeat' split) <;> rfl
@[simp] theorem interpretPower_fan (f : Frame) : (interpretPower f s).fan = s.fan :=
  by unfold interpretPower; (repeat' split) <;> rfl
@[simp] theorem interpretPower_swing (f : Frame) : (interpretPower f s).swing = s.swing :=
  by unfold interpretPower; (repeat' split) <;> rfl
@[simp] theorem interpretPower_pwr (f : Frame) : (interpretPower f s).pwr = if getField f fieldPower = 1 then !s.pwr else s.pwr :=
  by unfold interpretPower; (repeat' split) <;> simp_all
@[simp] theorem interpretPower_guard (f : Frame) : (interpretPower f s).guard = s.guard :=
  by unfold interpretPower; (repeat' split) <;> rfl
@[simp] theorem interpretPower_gtimer (f : Frame) : (interpretPower f s).gtimer = s.gtimer :=
  by unfold interpretPower; (repeat' split) <;> rfl
@[simp] theorem interpretPower_frameOut (f : Frame) : (interpretPower f s).frameOut = s.frameOut :=
  by unfold interpretPower; (repeat' split) <;> rfl
@[simp] theorem interpretPower_ok (f : Frame) : (interpretPower f s).ok = s.ok :=
  by unfold interpretPower; (repeat' split) <;> rfl
@[simp] theorem interpretPower_cause (f : Frame) : (interpretPower f s).cause = s.cause :=
  by unfold interpretPower; (repeat' split) <;> rfl
@[simp] theorem interpretPower_info (f : Frame) : (interpretPower f s).info = s.info :=
  by unfold interpretPower; (repeat' split) <;> rfl
@[simp] theorem interpretPower_publish (f : Frame) : (interpretPower f s).publish = s.publish :=
  by unfold interpretPower; (repeat' split) <;> rfl
@[simp] theorem interpretPower_sink (f : Frame) : (interpretPower f s).sink = s.sink :=
  by unfold interpretPower; (repeat' split) <;> rfl
@[simp] theorem interpretPower_dm (f : Frame) : (interpretPower f s).dm = s.dm :=
  by unfold interpretPower; (repeat' split) <;> rfl
@[simp] theorem interpretPower_pins (f : Frame) : (interpretPower f s).pins = s.pins :=
  by unfold interpretPower; (repeat' split) <;> rfl
@[simp] theorem interpretPower_inst (f : Frame) : (interpretPower f s).inst = s.inst :=
  by unfold interpretPower; (repeat' split) <;> rfl
@[simp] theorem interpretPower_port (f : Frame) : (interpretPower f s).port = s.port :=
  by unfold interpretPower; (repeat' split) <;> rfl
@[simp] theorem interpretPower_freeCount (f : Frame) : (interpretPower f s).freeCount = s.freeCount :=
  by unfold interpretPower; (repeat' split) <;> rfl

/-! ### interpretMode -/

@[simp] theorem interpretMode_mode (f : Frame) : (interpretMode f s).mode = if s.pwr then (modeOfWire (getField f fieldMode)).getD s.mode else s.mode :=
  by unfold interpretMode; (repeat' split) <;> simp_all
@[simp] theorem interpretMode_target (f : Frame) : (interpretMode f s).target = s.target :=
  by unfold interpretMode; (repeat' split) <;> rfl
@[simp] theorem interpretMode_fan (f : Frame) : (interpretMode f s).fan = s.fan :=
  by unfold interpretMode; (repeat' split) <;> rfl
@[simp] theorem interpretMode_swing (f : Frame) : (interpretMode f s).swing = s.swing :=
  by unfold interpretMode; (repeat' split) <;> rfl
@[simp] theorem interpretMode_pwr (f : Frame) : (interpretMode f s).pwr = s.pwr :=
  by unfold interpretMode; (repeat' split) <;> rfl
@[simp] theorem interpretMode_guard (f : Frame) : (interpretMode f s).guard = s.guard :=
  by unfold interpretMode; (repeat' split) <;> rfl
@[simp] theorem interpretMode_gtimer (f : Frame) : (interpretMode f s).gtimer = s.gtimer :=
  by unfold interpretMode; (repeat' split) <;> rfl
@[simp] theorem interpretMode_frameOut (f : Frame) : (interpretMode f s).frameOut = s.frameOut :=
  by unfold interpretMode; (repeat' split) <;> rfl
@[simp] theorem interpretMode_ok (f : Frame) : (interpretMode f s).ok = s.ok :=
  by unfold interpretMode; (repeat' split) <;> rfl
@[simp] theorem interpretMode_cause (f : Frame) : (interpretMode f s).cause = s.cause :=
  by unfold interpretMode; (repeat' split) <;> rfl
@[simp] theorem interpretMode_info (f : Frame) : (interpretMode f s).info = s.info :=
  by unfold interpretMode; (repeat' split) <;> rfl
@[simp] theorem interpretMode_publish (f : Frame) : (interpretMode f s).publish = s.publish :=
  by unfold interpretMode; (repeat' split) <;> rfl
@[simp] theorem interpretMode_sink (f : Frame) : (interpretMode f s).sink = s.sink :=
  by unfold interpretMode; (repeat' split) <;> rfl
@[simp] theorem interpretMode_dm (f : Frame) : (interpretMode f s).dm = s.dm :=
  by unfold interpretMode; (repeat' split) <;> rfl
@[simp] theorem interpretMode_pins (f : Frame) : (interpretMode f s).pins = s.pins :=
  by unfold interpretMode; (repeat' split) <;> rfl
@[simp] theorem interpretMode_inst (f : Frame) : (interpretMode f s).inst = s.inst :=
  by unfold interpretMode; (repeat' split) <;> rfl
@[simp] theorem interpretMode_port (f : Frame) : (interpretMode f s).port = s.port :=
  by unfold interpretMode; (repeat' split) <;> rfl
@[simp] theorem interpretMode_freeCount (f : Frame) : (interpretMode f s).freeCount = s.freeCount :=
  by unfold interpretMode; (repeat' split) <;> rfl

/-! ### interpretTemp -/

@[simp] theorem interpretTemp_mode (f : Frame) : (interpretTemp f s).mode = s.mode := rfl
@[simp] theorem interpretTemp_target (f : Frame) : (interpretTemp f s).target = BitVec.ofInt 8 (tempDec s.pins.model f) :=
  rfl
@[simp] theorem interpretTemp_fan (f : Frame) : (interpretTemp f s).fan = s.fan := rfl
@[simp] theorem interpretTemp_swing (f : Frame) : (interpretTemp f s).swing = s.swing := rfl
@[simp] theorem interpretTemp_pwr (f : Frame) : (interpretTemp f s).pwr = s.pwr := rfl
@[simp] theorem interpretTemp_guard (f : Frame) : (interpretTemp f s).guard = s.guard := rfl
@[simp] theorem interpretTemp_gtimer (f : Frame) : (interpretTemp f s).gtimer = s.gtimer := rfl
@[simp] theorem interpretTemp_frameOut (f : Frame) : (interpretTemp f s).frameOut = s.frameOut := rfl
@[simp] theorem interpretTemp_ok (f : Frame) : (interpretTemp f s).ok = s.ok := rfl
@[simp] theorem interpretTemp_cause (f : Frame) : (interpretTemp f s).cause = s.cause := rfl
@[simp] theorem interpretTemp_info (f : Frame) : (interpretTemp f s).info = s.info := rfl
@[simp] theorem interpretTemp_publish (f : Frame) : (interpretTemp f s).publish = s.publish := rfl
@[simp] theorem interpretTemp_sink (f : Frame) : (interpretTemp f s).sink = s.sink := rfl
@[simp] theorem interpretTemp_dm (f : Frame) : (interpretTemp f s).dm = s.dm := rfl
@[simp] theorem interpretTemp_pins (f : Frame) : (interpretTemp f s).pins = s.pins := rfl
@[simp] theorem interpretTemp_inst (f : Frame) : (interpretTemp f s).inst = s.inst := rfl
@[simp] theorem interpretTemp_port (f : Frame) : (interpretTemp f s).port = s.port := rfl
@[simp] theorem interpretTemp_freeCount (f : Frame) : (interpretTemp f s).freeCount = s.freeCount := rfl

/-! ### interpretFan -/

@[simp] theorem interpretFan_mode (f : Frame) : (interpretFan f s).mode = s.mode := rfl
@[simp] theorem interpretFan_target (f : Frame) : (interpretFan f s).target = s.target := rfl
@[simp] theorem interpretFan_fan (f : Frame) : (interpretFan f s).fan = fanOfWire (getField f fieldFan) := rfl
@[simp] theorem interpretFan_swing (f : Frame) : (interpretFan f s).swing = s.swing := rfl
@[simp] theorem interpretFan_pwr (f : Frame) : (interpretFan f s).pwr = s.pwr := rfl
@[simp] theorem interpretFan_guard (f : Frame) : (interpretFan f s).guard = s.guard := rfl
@[simp] theorem interpretFan_gtimer (f : Frame) : (interpretFan f s).gtimer = s.gtimer := rfl
@[simp] theorem interpretFan_frameOut (f : Frame) : (interpretFan f s).frameOut = s.frameOut := rfl
@[simp] theorem interpretFan_ok (f : Frame) : (interpretFan f s).ok = s.ok := rfl
@[simp] theorem interpretFan_cause (f : Frame) : (interpretFan f s).cause = s.cause := rfl
@[simp] theorem interpretFan_info (f : Frame) : (interpretFan f s).info = s.info := rfl
@[simp] theorem interpretFan_publish (f : Frame) : (interpretFan f s).publish = s.publish := rfl
@[simp] theorem interpretFan_sink (f : Frame) : (interpretFan f s).sink = s.sink := rfl
@[simp] theorem interpretFan_dm (f : Frame) : (interpretFan f s).dm = s.dm := rfl
@[simp] theorem interpretFan_pins (f : Frame) : (interpretFan f s).pins = s.pins := rfl
@[simp] theorem interpretFan_inst (f : Frame) : (interpretFan f s).inst = s.inst := rfl
@[simp] theorem interpretFan_port (f : Frame) : (interpretFan f s).port = s.port := rfl
@[simp] theorem interpretFan_freeCount (f : Frame) : (interpretFan f s).freeCount = s.freeCount := rfl

/-! ### interpretSwing -/

@[simp] theorem interpretSwing_mode (f : Frame) : (interpretSwing f s).mode = s.mode :=
  by unfold interpretSwing; split <;> rfl
@[simp] theorem interpretSwing_target (f : Frame) : (interpretSwing f s).target = s.target :=
  by unfold interpretSwing; split <;> rfl
@[simp] theorem interpretSwing_fan (f : Frame) : (interpretSwing f s).fan = s.fan :=
  by unfold interpretSwing; split <;> rfl
@[simp] theorem interpretSwing_swing (f : Frame) : (interpretSwing f s).swing = if swingRequested f then toggleSwing s.swing else s.swing :=
  by unfold interpretSwing; (repeat' split) <;> simp_all
@[simp] theorem interpretSwing_pwr (f : Frame) : (interpretSwing f s).pwr = s.pwr :=
  by unfold interpretSwing; split <;> rfl
@[simp] theorem interpretSwing_guard (f : Frame) : (interpretSwing f s).guard = s.guard :=
  by unfold interpretSwing; split <;> rfl
@[simp] theorem interpretSwing_gtimer (f : Frame) : (interpretSwing f s).gtimer = s.gtimer :=
  by unfold interpretSwing; split <;> rfl
@[simp] theorem interpretSwing_frameOut (f : Frame) : (interpretSwing f s).frameOut = s.frameOut :=
  by unfold interpretSwing; split <;> rfl
@[simp] theorem interpretSwing_ok (f : Frame) : (interpretSwing f s).ok = s.ok :=
  by unfold interpretSwing; split <;> rfl
@[simp] theorem interpretSwing_cause (f : Frame) : (interpretSwing f s).cause = s.cause :=
  by unfold interpretSwing; split <;> rfl
@[simp] theorem interpretSwing_info (f : Frame) : (interpretSwing f s).info = s.info :=
  by unfold interpretSwing; split <;> rfl
@[simp] theorem interpretSwing_publish (f : Frame) : (interpretSwing f s).publish = s.publish :=
  by unfold interpretSwing; split <;> rfl
@[simp] theorem interpretSwing_sink (f : Frame) : (interpretSwing f s).sink = s.sink :=
  by unfold interpretSwing; split <;> rfl
@[simp] theorem interpretSwing_dm (f : Frame) : (interpretSwing f s).dm = s.dm :=
  by unfold interpretSwing; split <;> rfl
@[simp] theorem interpretSwing_pins (f : Frame) : (interpretSwing f s).pins = s.pins :=
  by unfold interpretSwing; split <;> rfl
@[simp] theorem interpretSwing_inst (f : Frame) : (interpretSwing f s).inst = s.inst :=
  by unfold interpretSwing; split <;> rfl
@[simp] theorem interpretSwing_port (f : Frame) : (interpretSwing f s).port = s.port :=
  by unfold interpretSwing; split <;> rfl
@[simp] theorem interpretSwing_freeCount (f : Frame) : (interpretSwing f s).freeCount = s.freeCount :=
  by unfold interpretSwing; split <;> rfl

end Sys2Proof.Machine
end

