-- ==== Sys2Proof/Laws/Operands.lean ====
section
/-! SUPPORT. Lemmas about the accessors, the clamps and the operand functions of the bitfield packer. -/

namespace Sys2Proof.Machine

/-! ### Accessors -/

theorem getField_lt (f : Frame) (x : Field) : getField f x < 2 ^ x.w :=
  Nat.mod_lt _ (Nat.pos_of_ne_zero (by positivity))

/-- A field write changes no other byte. -/
theorem setField_getElem_ne (f : Frame) (x : Field) (v : Nat) (k : Fin 21) (h : k ≠ x.byte) :
    (setField f x v)[k] = f[k] := by
  have : x.byte.val ≠ k.val := fun e => h (Fin.ext e.symm)
  simp [setField, Fin.getElem_fin, this]

/-- What a field write makes of its own byte. -/
theorem setField_getElem_self (f : Frame) (x : Field) (v : Nat) :
    (setField f x v)[x.byte] =
      ((f[x.byte] &&& ~~~ fieldMask x) ||| (BitVec.ofNat 8 (v % 2 ^ x.w * 2 ^ x.lo) &&& fieldMask x)) := by
  simp [setField, Fin.getElem_fin]

/-- Reading a field looks at its own byte only. -/
theorem getField_congr {f g : Frame} {x : Field} (h : f[x.byte] = g[x.byte]) : getField f x = getField g x := by
  simp only [getField, h]

/-- A field of another byte reads as before after a write. -/
theorem getField_setField_other_byte (f : Frame) (x y : Field) (v : Nat) (h : y.byte ≠ x.byte) :
    getField (setField f x v) y = getField f y :=
  getField_congr (setField_getElem_ne f x v y.byte h)

/-! ### Clamps and temperatures -/

/-- Everything `clamp` can answer. -/
theorem clamp_cases (v lo hi : Int) :
    (v < lo ∧ clamp v lo hi = lo) ∨ (lo ≤ v ∧ hi < v ∧ clamp v lo hi = hi) ∨
      (lo ≤ v ∧ v ≤ hi ∧ clamp v lo hi = v) := by
  unfold clamp; split <;> [skip; split] <;> omega

theorem clamp_ge {v lo hi : Int} (h : lo ≤ hi) : lo ≤ clamp v lo hi := by
  rcases clamp_cases v lo hi with h' | h' | h' <;> omega

theorem clamp_le {v lo hi : Int} (h : lo ≤ hi) : clamp v lo hi ≤ hi := by
  rcases clamp_cases v lo hi with h' | h' | h' <;> omega

/-- The encoded temperature fits its field (46_arithmetic_sequencing.md R271). -/
theorem tempEnc_bounds (m : Model) (t : Int) : 0 ≤ tempEnc m t ∧ tempEnc m t ≤ 14 := by
  cases m <;> simp only [tempEnc, tmin, tmax]
  · have h1 := clamp_ge (v := t) (show (18 : Int) ≤ 32 by omega)
    have h2 := clamp_le (v := t) (show (18 : Int) ≤ 32 by omega)
    omega
  · have h1 := clamp_ge (v := t) (show (16 : Int) ≤ 30 by omega)
    have h2 := clamp_le (v := t) (show (16 : Int) ≤ 30 by omega)
    omega

/-- The auto-mode offset lies in -8..5 or -6..7 (46_arithmetic_sequencing.md R271). -/
theorem autoOffset_bounds (m : Model) (t : Int) : -8 ≤ autoOffset m t ∧ autoOffset m t ≤ 7 := by
  cases m <;> simp only [autoOffset, tmin, tmax, autoRef]
  · have h1 := clamp_ge (v := t) (show (18 + 1 : Int) ≤ 32 by omega)
    have h2 := clamp_le (v := t) (show (18 + 1 : Int) ≤ 32 by omega)
    omega
  · have h1 := clamp_ge (v := t) (show (16 + 1 : Int) ≤ 30 by omega)
    have h2 := clamp_le (v := t) (show (16 + 1 : Int) ≤ 30 by omega)
    omega

/-- ATO and PAD1 fit their fields (46_arithmetic_sequencing.md R271). -/
theorem autoEnc_bounds (off : Int) (h : -8 ≤ off ∧ off ≤ 7) :
    0 ≤ (autoEnc off).1 ∧ (autoEnc off).1 ≤ 6 ∧ 0 ≤ (autoEnc off).2 ∧ (autoEnc off).2 ≤ 24 := by
  obtain ⟨h1, h2⟩ := h
  interval_cases off <;> decide

/-! ### Codes -/

@[simp] theorem toggleSwing_toggleSwing (w : Swing) : toggleSwing (toggleSwing w) = w := by cases w <;> rfl

theorem toggleSwing_ne (w : Swing) : toggleSwing w ≠ w := by cases w <;> decide

/-- A mode's wire code is read back as the mode (30_encoding.md R74). -/
theorem modeOfWire_wireMode {m : Mode} {c : Nat} (h : wireMode m = some c) : modeOfWire c = some m := by
  cases m <;> simp_all [wireMode] <;> subst h <;> rfl

/-- No wire code is read as OFF (30_encoding.md R74). -/
theorem modeOfWire_ne_off (c : Nat) : modeOfWire c ≠ some .off := by
  unfold modeOfWire; split <;> decide

/-- A fan speed's wire code is read back as the fan speed (30_encoding.md R75). -/
theorem fanOfWire_wireFan (f : Fan) : fanOfWire (wireFan f) = f := by cases f <;> decide

end Sys2Proof.Machine
end

