-- ==== Sys2Proof/Laws/Timing.lean ====
section
/-! SUPPORT. Lemmas about the timing codec: symbols, the grammar, the arrival of a symbol, the primitives. -/

namespace Sys2Proof.Machine

/-! ### Symbols and the grammar -/

theorem symbolItems_length (y : Symbol) : (symbolItems y).length = if y = .ftr then 1 else 2 := by cases y <;> rfl

theorem grammar_length : grammar.length = 172 := by decide +kernel

/-- A frame's symbol at a place may stand there. -/
theorem placeSymbol_mem (f : Frame) (p : Place) : placeSymbol f p ∈ candidates p := by
  cases p with
  | bit k j => show bitSymbol _ ∈ _; unfold bitSymbol; split <;> simp [candidates]
  | _ => simp [placeSymbol, candidates]

/-- All symbols of a place have the same number of items. -/
theorem candidates_length {p : Place} {y z : Symbol} (hy : y ∈ candidates p) (hz : z ∈ candidates p) :
    (symbolItems y).length = (symbolItems z).length := by
  cases p <;> simp only [candidates, List.mem_cons, List.not_mem_nil, or_false] at hy hz
  · subst hy hz; rfl
  · rcases hy with rfl | rfl <;> rcases hz with rfl | rfl <;> rfl
  · subst hy hz; rfl
  · subst hy hz; rfl

/-- MOD is the items of the frame's symbols along the grammar (30_encoding.md R96, 42_timing_codec.md R158). -/
theorem modulate_eq_grammar (f : Frame) :
    modulate f = grammar.flatMap fun p => symbolItems (placeSymbol f p) := by
  have hbyte : ∀ k : Fin 21, modByte f[k] = (bytePlaces k).flatMap fun p => symbolItems (placeSymbol f p) := by
    intro k; simp [modByte, bytePlaces, List.flatMap_map, placeSymbol]
  have hdiv : ∀ k : Fin 21, (if dividerAfter k then symbolItems .div else []) =
      (if dividerAfter k then [Place.div] else []).flatMap fun p => symbolItems (placeSymbol f p) := by
    intro k; split <;> simp [placeSymbol]
  simp only [modulate, grammar, List.cons_append, List.flatMap_cons, List.flatMap_append, List.flatMap_assoc,
    hbyte, hdiv, List.append_assoc]
  simp [placeSymbol]

/-! ### The arrival of a symbol -/

/-- Everything the arrival of a symbol can do. -/
theorem accept_cases (d : Demod) (y : Symbol) :
    (∃ p rest, d.failed = false ∧ d.todo = p :: rest ∧ y ∈ candidates p ∧
      d.accept y = { todo := rest, cur := d.cur + (symbolItems y).length, frame := depositSymbol d.frame p y,
                     failed := false }) ∨
    (∃ p rest, d.failed = false ∧ d.todo = p :: rest ∧ y ∉ candidates p ∧ d.accept y = { d with failed := true }) ∨
    ((d.failed = true ∨ d.todo = []) ∧ d.accept y = d) := by
  obtain ⟨todo, cur, frame, failed⟩ := d
  cases failed with
  | true => exact .inr (.inr ⟨.inl rfl, by cases todo <;> rfl⟩)
  | false =>
    cases todo with
    | nil => exact .inr (.inr ⟨.inr rfl, rfl⟩)
    | cons p rest =>
      by_cases hy : y ∈ candidates p
      · exact .inl ⟨p, rest, rfl, rfl, hy, by simp [Demod.accept, hy]⟩
      · exact .inr (.inl ⟨p, rest, rfl, rfl, hy, by simp [Demod.accept, hy]⟩)

/-- The arrival of an expected symbol. -/
theorem accept_expected {d : Demod} {p : Place} {rest : List Place} {y : Symbol} (hf : d.failed = false)
    (ht : d.todo = p :: rest) (hy : y ∈ candidates p) :
    d.accept y = { todo := rest, cur := d.cur + (symbolItems y).length, frame := depositSymbol d.frame p y,
                   failed := false } := by
  simp [Demod.accept, hf, ht, hy]

/-- A mismatch keeps the place, the cursor and the frame. -/
theorem fail_cases (d : Demod) : d.fail = d ∨ d.fail = { d with failed := true } := by
  unfold Demod.fail; split <;> simp

/-! ### Matching -/

/-- An exact duration matches at any tolerance (42_timing_codec.md R171). -/
theorem matchDuration_self (tol : Fin 101) (e : Nat) : matchDuration tol e e = true := by
  have h : tol.val ≤ 100 := by omega
  simp only [matchDuration, Bool.and_eq_true, decide_eq_true_eq]
  constructor
  · calc e * (100 - tol.val) ≤ e * 100 := Nat.mul_le_mul_left _ (by omega)
      _ = 100 * e := Nat.mul_comm _ _
  · calc 100 * e = e * 100 := Nat.mul_comm _ _
      _ ≤ e * (100 + tol.val) := Nat.mul_le_mul_left _ (by omega)

/-- Whether an item matches, once it is known. -/
theorem itemMatches_of_get {tol : Fin 101} {rx : Train} {i : Nat} {it : Item} (h : rx[i]? = some it) (l : Level)
    (e : Nat) : itemMatches tol rx i l e = (it.level == l && matchDuration tol e it.duration.toNat) := by
  simp [itemMatches, h]

/-- An item that matches exists. -/
theorem itemMatches_lt {tol : Fin 101} {rx : Train} {i : Nat} {l : Level} {e : Nat}
    (h : itemMatches tol rx i l e = true) : i < rx.length := by
  by_contra hc
  simp [itemMatches, List.getElem?_eq_none (Nat.le_of_not_lt hc)] at h

/-- Appending items changes nothing of what matched. -/
theorem itemMatches_append {tol : Fin 101} {rx : Train} {i : Nat} {l : Level} {e : Nat} (more : Train)
    (h : i < rx.length) : itemMatches tol (rx ++ more) i l e = itemMatches tol rx i l e := by
  simp [itemMatches, List.getElem?_append_left h]

/-- A symbol that matches moves the cursor over its items, and they exist (42_timing_codec.md R152 to R154). -/
theorem expectSymbol_some {tol : Fin 101} {rx : Train} {cur c : Nat} {y : Symbol}
    (h : expectSymbol tol rx cur y = some c) : c = cur + (symbolItems y).length ∧ c ≤ rx.length := by
  cases y <;> simp only [expectSymbol, symbolSpace, expectItem, expectMark] at h <;> split at h <;>
    simp only [Option.some.injEq, reduceCtorEq] at h <;> subst h
  all_goals
    rename_i hm
    first
    | exact ⟨rfl, itemMatches_lt hm⟩
    | exact ⟨rfl, itemMatches_lt (Bool.and_eq_true _ _ ▸ hm).2⟩

/-- The selected symbol is one of those asked for, and it matches. -/
theorem selectSymbol_some {tol : Fin 101} {rx : Train} {cur : Nat} {ys : List Symbol} {y : Symbol}
    (h : selectSymbol tol rx cur ys = some y) : y ∈ ys ∧ (expectSymbol tol rx cur y).isSome = true :=
  ⟨List.mem_of_find?_eq_some h, by simpa using List.find?_some h⟩

/-- One turn of DEMOD's loop (42_timing_codec.md R166). -/
theorem demodPlaces_cons (tol : Fin 101) (rx : Train) (p : Place) (rest : List Place) (d : Demod) :
    demodPlaces tol rx (p :: rest) d =
      match selectSymbol tol rx d.cur (candidates p) with
      | some y => demodPlaces tol rx rest (d.accept y)
      | none => d.fail := rfl

end Sys2Proof.Machine
end

