-- ==== Sys2Proof/Laws/Ops.lean ====
section
/-! SUPPORT. For each shared operation what it can do, said once. -/

namespace Sys2Proof.Machine

/-- Everything a guard unit of time can do (45_host_ops.md R260). -/
theorem tickGuard_cases (s : State) :
    (s.gtimer = 0 ∧ tickGuard s = s) ∨
    (s.gtimer = 1 ∧ tickGuard s = { s with gtimer := 0, guard := false }) ∨
    (s.gtimer ≠ 0 ∧ s.gtimer ≠ 1 ∧ tickGuard s = { s with gtimer := s.gtimer - 1 }) := by
  by_cases h0 : s.gtimer = 0
  · exact .inl ⟨h0, by simp [tickGuard, h0]⟩
  · by_cases h1 : s.gtimer = 1
    · exact .inr (.inl ⟨h1, by simp [tickGuard, h1]⟩)
    · have h2 : s.gtimer - 1 ≠ 0 := by bv_omega
      exact .inr (.inr ⟨h0, h1, by rw [tickGuard, if_neg h0, if_neg h2]⟩)

/-- The state in which a receive attempt is judged. -/
def receiveStart (s : State) : State := restartDemod (beginOp s)

/-- Everything a receive attempt can do: the five ends of 60_exceptions.md R280, each under its condition, in the order of
R287. -/
theorem receive_cases (r : DemodResult) (s : State) :
    (s.guard = true ∧ receive r s = suppressEcho (receiveStart s)) ∨
    (s.guard = false ∧ ∃ pos, r = .fail pos ∧
      receive r s = raise causeTiming (.pos pos) (receiveStart s)) ∨
    (s.guard = false ∧ ∃ f, r = .ok f ∧ (bad1 f || bad2 f) = true ∧
      receive r s = raise causeChecksum (.sums (bad1 f) (bad2 f)) (receiveStart s)) ∨
    (s.guard = false ∧ ∃ f, r = .ok f ∧ (bad1 f || bad2 f) = false ∧
      (badHdr0 s.inst f || badHdr1 s.inst f) = true ∧
      receive r s = raise causeHeader (.headers (badHdr0 s.inst f) (badHdr1 s.inst f)) (receiveStart s)) ∨
    (s.guard = false ∧ ∃ f, r = .ok f ∧ frameAccepted s.inst f = true ∧
      receive r s = interpretFrame f (receiveStart s)) := by
  cases hg : s.guard with
  | true => exact .inl ⟨rfl, by simp [receive, receiveStart, hg]⟩
  | false =>
    cases r with
    | fail pos => exact .inr (.inl ⟨rfl, pos, rfl, by simp [receive, receiveStart, receiveResult, hg]⟩)
    | ok f =>
      cases hc : (bad1 f || bad2 f) with
      | true =>
        exact .inr (.inr (.inl ⟨rfl, f, rfl, hc, by
          simp [receive, receiveStart, receiveResult, checkAndInterpret, hg, hc]⟩))
      | false =>
        cases hh : (badHdr0 s.inst f || badHdr1 s.inst f) with
        | true =>
          exact .inr (.inr (.inr (.inl ⟨rfl, f, rfl, hc, hh, by
            simp [receive, receiveStart, receiveResult, checkAndInterpret, hg, hc, hh]⟩)))
        | false =>
          refine .inr (.inr (.inr (.inr ⟨rfl, f, rfl, ?_, by
            simp [receive, receiveStart, receiveResult, checkAndInterpret, hg, hc, hh]⟩)))
          simp_all [frameAccepted]

/-- Everything reading the port can find (00_scope.md R17; log 1). -/
theorem fetch_cases (s : State) :
    (s.port = [] ∧ fetch s = .run .idle s) ∨
    (∃ rest, s.port = .reset :: rest ∧ fetch s = .done (assertReset { s with port := rest })) ∨
    (∃ p rest, s.port = .setPins p :: rest ∧ fetch s = .done (drivePins p { s with port := rest })) ∨
    (∃ w rest i, s.port = .request w :: rest ∧ decodeHere s w = .ok i ∧
      fetch s = .run i { s with port := rest }) ∨
    (∃ w rest, s.port = .request w :: rest ∧ decodeHere s w = .error .modeNotAdmitted ∧
      fetch s = .refuse .modeNotAdmitted) ∨
    (∃ w rest, s.port = .request w :: rest ∧ decodeHere s w = .error .notASymbol ∧
      fetch s = .done (mismatchSymbol { s with port := rest })) := by
  cases hp : s.port with
  | nil => exact .inl ⟨rfl, by simp [fetch, hp]⟩
  | cons e rest =>
    cases e with
    | reset => exact .inr (.inl ⟨rest, rfl, by simp [fetch, hp]⟩)
    | setPins p => exact .inr (.inr (.inl ⟨p, rest, rfl, by simp [fetch, hp]⟩))
    | request w =>
      cases hd : decodeHere s w with
      | ok i => exact .inr (.inr (.inr (.inl ⟨w, rest, i, rfl, hd, by simp [fetch, hp, hd]⟩)))
      | error e =>
        cases e with
        | modeNotAdmitted => exact .inr (.inr (.inr (.inr (.inl ⟨w, rest, rfl, hd, by simp [fetch, hp, hd]⟩))))
        | notASymbol => exact .inr (.inr (.inr (.inr (.inr ⟨w, rest, rfl, hd, by simp [fetch, hp, hd]⟩))))

/-- Everything a step that answers a next state can have done: run an instruction, or taken one of the host's other
events. -/
theorem step_next_cases {s t : State} (h : step s = .next t) :
    (∃ i s', (s' = s ∨ ∃ rest, s' = { s with port := rest }) ∧ exec i s' = .next t) ∨
    (∃ rest, t = assertReset { s with port := rest }) ∨
    (∃ p rest, t = drivePins p { s with port := rest }) ∨
    (∃ rest, t = mismatchSymbol { s with port := rest }) := by
  rcases fetch_cases s with ⟨_, hf⟩ | ⟨rest, _, hf⟩ | ⟨p, rest, _, hf⟩ | ⟨w, rest, i, _, _, hf⟩ |
      ⟨w, rest, _, _, hf⟩ | ⟨w, rest, _, _, hf⟩ <;> simp only [step, hf] at h
  · exact .inl ⟨_, _, .inl rfl, h⟩
  · exact .inr (.inl ⟨rest, (Host.Outcome.next.inj h).symm⟩)
  · exact .inr (.inr (.inl ⟨p, rest, (Host.Outcome.next.inj h).symm⟩))
  · exact .inl ⟨i, _, .inr ⟨rest, rfl⟩, h⟩
  · exact absurd h (by simp)
  · exact .inr (.inr (.inr ⟨rest, (Host.Outcome.next.inj h).symm⟩))

/-- What an instruction does, in terms of the shared operations: one line for each meaning. -/
theorem exec_cases (i : Instr) (s : State) :
    (i = .idle ∧ exec i s = .next (beginOp s)) ∨
    (i = .tick ∧ exec i s = .next (tickGuard (beginOp s))) ∨
    (∃ m g f w tc mc sr, i = .xmit m g f w tc mc sr ∧
      exec i s = .next (presentFrame (buildFrame s.inst s.pins.model s.pwr m g f tc sr)
        (armGuard (updatePower m (latchRequest m g f w (beginOp s)))))) ∨
    (∃ rx, i = .recv rx ∧ exec i s = .next (receive (demodulate s.inst.tolPct rx) s)) ∨
    (∃ f, i ∈ [.fNone f, .fPower f, .fTemp f, .fMode f, .fSwing f, .fFan f, .fAutoset f, .fOther f] ∧
      exec i s = .next (receive (.ok f) s)) ∨
    (∃ y, i = instrOfSymbol y ∧ exec i s = .next (acceptSymbol y s)) := by
  cases i with
  | idle => exact .inl ⟨rfl, rfl⟩
  | tick => exact .inr (.inl ⟨rfl, rfl⟩)
  | xmit m g f w tc mc sr => exact .inr (.inr (.inl ⟨m, g, f, w, tc, mc, sr, rfl, rfl⟩))
  | recv rx => exact .inr (.inr (.inr (.inl ⟨rx, rfl, rfl⟩)))
  | fNone f => exact .inr (.inr (.inr (.inr (.inl ⟨f, by simp, rfl⟩))))
  | fPower f => exact .inr (.inr (.inr (.inr (.inl ⟨f, by simp, rfl⟩))))
  | fTemp f => exact .inr (.inr (.inr (.inr (.inl ⟨f, by simp, rfl⟩))))
  | fMode f => exact .inr (.inr (.inr (.inr (.inl ⟨f, by simp, rfl⟩))))
  | fSwing f => exact .inr (.inr (.inr (.inr (.inl ⟨f, by simp, rfl⟩))))
  | fFan f => exact .inr (.inr (.inr (.inr (.inl ⟨f, by simp, rfl⟩))))
  | fAutoset f => exact .inr (.inr (.inr (.inr (.inl ⟨f, by simp, rfl⟩))))
  | fOther f => exact .inr (.inr (.inr (.inr (.inl ⟨f, by simp, rfl⟩))))
  | sHdr => exact .inr (.inr (.inr (.inr (.inr ⟨.hdr, rfl, rfl⟩))))
  | sBit1 => exact .inr (.inr (.inr (.inr (.inr ⟨.bit1, rfl, rfl⟩))))
  | sBit0 => exact .inr (.inr (.inr (.inr (.inr ⟨.bit0, rfl, rfl⟩))))
  | sDiv => exact .inr (.inr (.inr (.inr (.inr ⟨.div, rfl, rfl⟩))))
  | sFtr => exact .inr (.inr (.inr (.inr (.inr ⟨.ftr, rfl, rfl⟩))))

end Sys2Proof.Machine
end

