-- ==== Sys2Proof/Laws/PerInstr.lean ====
section
/-! SUPPORT. The family of statements made once for every instruction: its word has the format of its row of
spec/opcode_table.json. -/

namespace Sys2Proof.Laws.WordFormat

/-- The number of bits of a table row's own encoding: 2 for a host operation's OP, 168 for a frame, 33 for each item of a
symbol (30_encoding.md R97, 20_memory.md R51). -/
def rowBits : PortWord → Nat
  | .op _ _ _ => 2
  | .frame _ => 168
  | .symbol items => 33 * items.length

/-- The width spec/opcode_table.json gives an instruction's row. -/
def tableWidth : Instr → Nat
  | .idle => 2
  | .xmit _ _ _ _ _ _ _ => 2
  | .recv _ => 2
  | .tick => 2
  | .fNone _ => 168
  | .fPower _ => 168
  | .fTemp _ => 168
  | .fMode _ => 168
  | .fSwing _ => 168
  | .fFan _ => 168
  | .fAutoset _ => 168
  | .fOther _ => 168
  | .sHdr => 66
  | .sBit1 => 66
  | .sBit0 => 66
  | .sDiv => 66
  | .sFtr => 33

/-- The encoder writes a word of the width the table gives the row. -/
def Statement (i : Instr) : Prop := rowBits (encode i) = tableWidth i

theorem idle : Statement .idle := rfl
theorem xmit (mode : Mode) (target : Degrees) (fan : Fan) (swing : Swing) (tc mc sr : Bool) :
    Statement (.xmit mode target fan swing tc mc sr) := rfl
theorem recv (rx : Train) : Statement (.recv rx) := rfl
theorem tick : Statement .tick := rfl
theorem fNone (frame : Frame) : Statement (.fNone frame) := rfl
theorem fPower (frame : Frame) : Statement (.fPower frame) := rfl
theorem fTemp (frame : Frame) : Statement (.fTemp frame) := rfl
theorem fMode (frame : Frame) : Statement (.fMode frame) := rfl
theorem fSwing (frame : Frame) : Statement (.fSwing frame) := rfl
theorem fFan (frame : Frame) : Statement (.fFan frame) := rfl
theorem fAutoset (frame : Frame) : Statement (.fAutoset frame) := rfl
theorem fOther (frame : Frame) : Statement (.fOther frame) := rfl
theorem sHdr : Statement .sHdr := rfl
theorem sBit1 : Statement .sBit1 := rfl
theorem sBit0 : Statement .sBit0 := rfl
theorem sDiv : Statement .sDiv := rfl
theorem sFtr : Statement .sFtr := rfl

end Sys2Proof.Laws.WordFormat
end

