-- ==== Sys2Proof/Tests/Slice0.lean ====
section
/-! SUPPORT. Tests: ill-formed terms refused, words written out from the spec's encodings, one-step tests with results from
95_test_vectors.md, and for each obligation with hypotheses a concrete case that meets them. -/

namespace Sys2Proof.Tests

-- One theorem after another: a kernel evaluation of DEMOD takes seconds, and the theorems waiting for it would each hold a
-- thread.
set_option Elab.async false

open Machine

/-! ### Helpers -/

/-- A state with the given DeviceState and PWR, MODEL_J191, guard clear. -/
def st (mode : Mode) (target : Int) (fan : Fan) (swing : Swing) (pwr : Bool) : State :=
  { State.reset with mode := mode, target := BitVec.ofInt 8 target, fan := fan, swing := swing, pwr := pwr }

/-- The DeviceState, PWR and result of the next state, if there is one. -/
def after (o : Host.Outcome State Fault Refusal) : Option (Mode × Int × Fan × Swing × Bool × Bool) :=
  match o with
  | .next t => some (t.mode, t.target.toInt, t.fan, t.swing, t.pwr, t.ok)
  | _ => none

/-- A field of the next state, if there is one. -/
def field {α : Type} (o : Host.Outcome State Fault Refusal) (get : State → α) : Option α :=
  match o with
  | .next t => some (get t)
  | _ => none

/-- The frame of V1, V20 (95_test_vectors.md). -/
def frameV1 : Frame :=
  #v[0x83, 0x06, 0x05, 0x82, 0, 0, 0x80, 0, 0, 0, 0, 0, 0, 0x07, 0, 0x11, 0, 0, 0x08, 0, 0x19]
/-- The frame of V4, V25. -/
def frameV4 : Frame :=
  #v[0x83, 0x06, 0x04, 0x80, 0, 0, 0x80, 0, 0, 0, 0, 0, 0, 0x04, 0, 0x01, 0, 0, 0x08, 0, 0x09]
/-- The frame of V6. -/
def frameV6 : Frame :=
  #v[0x83, 0x06, 0x00, 0x62, 0, 0, 0x80, 0, 0, 0, 0, 0, 0, 0xE2, 0, 0x02, 0, 0, 0x08, 0, 0x0A]
/-- The frame of V8, V26a. -/
def frameV8 : Frame :=
  #v[0x83, 0x06, 0x81, 0x62, 0, 0, 0x80, 0, 0x40, 0, 0, 0, 0, 0x23, 0, 0x07, 0, 0, 0x08, 0, 0x0F]
/-- The frame of V23. -/
def frameV23 : Frame :=
  #v[0x83, 0x06, 0x02, 0x40, 0, 0, 0x80, 0, 0, 0, 0, 0, 0, 0xC2, 0, 0x06, 0, 0, 0x08, 0, 0x0E]
/-- The frame of V28b, Mode code 5. -/
def frameV28b : Frame :=
  #v[0x83, 0x06, 0x04, 0x35, 0, 0, 0x80, 0, 0, 0, 0, 0, 0, 0xB1, 0, 0x06, 0, 0, 0x08, 0, 0x0E]
/-- The frame of V29a, all payload bytes zero. -/
def frameV29 : Frame := #v[0x83, 0x06, 0, 0, 0, 0, 0, 0, 0, 0, 0, 0, 0, 0, 0, 0, 0, 0, 0, 0, 0]
/-- The frame of V30. -/
def frameV30 : Frame :=
  #v[0x83, 0x06, 0x0A, 0x24, 0x55, 0xFF, 0x12, 0, 0, 0xA5, 0, 0, 0, 0x33, 0, 0xC3, 0, 0x77, 0xF7, 0x01, 0x42]
/-- The frame of V32 that gives the least temperature. -/
def frameV32 : Frame :=
  #v[0x83, 0x06, 0x70, 0x01, 0x80, 0, 0x80, 0, 0, 0, 0, 0, 0, 0x71, 0, 0x17, 0xFF, 0, 0x08, 0, 0xE0]
/-- The V1 frame with F[3] = 0x83, its Sum1 wrong (V33). -/
def frameV33 : Frame := frameV1.set 3 0x83
/-- The V1 frame with F[0] = HDR0 ^ 0x01 (V34). -/
def frameV34 : Frame := frameV1.set 0 0x82

/-! ### Ill-formed terms are refused -/

theorem test_illformed_fNone : (Instr.fNone frameV1).wellFormed = false := by decide
theorem test_illformed_fPower : (Instr.fPower frameV29).wellFormed = false := by decide
theorem test_illformed_fTemp : (Instr.fTemp frameV4).wellFormed = false := by decide
theorem test_illformed_fMode : (Instr.fMode frameV8).wellFormed = false := by decide
theorem test_illformed_fSwing : (Instr.fSwing frameV23).wellFormed = false := by decide
theorem test_illformed_fFan : (Instr.fFan frameV32).wellFormed = false := by decide
theorem test_illformed_fAutoset : (Instr.fAutoset frameV1).wellFormed = false := by decide
theorem test_illformed_fOther : (Instr.fOther frameV8).wellFormed = false := by decide

/-! ### Words written out from the encodings (30_encoding.md R97, R82 to R95; 20_memory.md R51) -/

theorem test_decode_idle : decodeNominal (.op 0b00 0 []) = .ok .idle := by decide
theorem test_decode_tick : decodeNominal (.op 0b11 0 []) = .ok .tick := by decide
/-- REQ of P1: target 24 (00011000), sr 0, mc 1, tc 0, swing 0, fan HIGH (01), mode COOL (010). -/
theorem test_decode_xmit : decodeNominal (.op 0b01 0b00011000010001010 []) =
    .ok (.xmit .cool 24 .high .off false true false) := by decide
/-- REQ of P3 and P8: swing and sr set; mode OFF. -/
theorem test_decode_xmit_codes :
    decodeNominal (.op 0b01 0x02D2A []) = .ok (.xmit .cool 22 .high .vertical false false true) ∧
    decodeNominal (.op 0b01 0x04097 []) = .ok (.xmit .off 32 .medium .off false true false) ∧
    decodeNominal (.op 0b01 0x02A40 []) = .ok (.xmit .heat 21 .auto .off true false false) := by decide
/-- Modes 5 and 6 are not admitted (43_encoder.md R181). -/
theorem test_decode_xmit_refused :
    decodeNominal (.op 0b01 0x0308D []) = .error .modeNotAdmitted ∧
    decodeNominal (.op 0b01 0x0308E []) = .error .modeNotAdmitted := by decide
theorem test_decode_recv : decodeNominal (.op 0b10 0 [0x10000023C#33, 0x000000229#33]) =
    .ok (.recv [⟨.mark, 572⟩, ⟨.space, 553⟩]) := by decide
theorem test_decode_fNone :
    decodeNominal (.frame 0x000000000000000000000000000000000000000683#168) = .ok (.fNone frameV29) := by
  decide +kernel
theorem test_decode_fPower :
    decodeNominal (.frame 0x090008000001000400000000000080000080040683#168) = .ok (.fPower frameV4) := by
  decide +kernel
theorem test_decode_fTemp :
    decodeNominal (.frame 0x0A000800000200E200000000000080000062000683#168) = .ok (.fTemp frameV6) := by
  decide +kernel
theorem test_decode_fMode :
    decodeNominal (.frame 0x0E000800000600C200000000000080000040020683#168) = .ok (.fMode frameV23) := by
  decide +kernel
theorem test_decode_fSwing :
    decodeNominal (.frame 0x0F0008000007002300000000400080000062810683#168) = .ok (.fSwing frameV8) := by
  decide +kernel
theorem test_decode_fFan :
    decodeNominal (.frame 0x190008000011000700000000000080000082050683#168) = .ok (.fFan frameV1) := by
  decide +kernel
theorem test_decode_fAutoset :
    decodeNominal (.frame 0xE0000800FF17007100000000000080008001700683#168) = .ok (.fAutoset frameV32) := by
  decide +kernel
theorem test_decode_fOther :
    decodeNominal (.frame 0x4201F77700C30033000000A5000012FF55240A0683#168) = .ok (.fOther frameV30) := by
  decide +kernel
/-- 9000 is 0x2328, 4494 is 0x118E, 572 is 0x23C, 1659 is 0x67B, 553 is 0x229, 7960 is 0x1F18. -/
theorem test_decode_symbols :
    decodeNominal (.symbol [0x100002328#33, 0x00000118E#33]) = .ok .sHdr ∧
    decodeNominal (.symbol [0x10000023C#33, 0x00000067B#33]) = .ok .sBit1 ∧
    decodeNominal (.symbol [0x10000023C#33, 0x000000229#33]) = .ok .sBit0 ∧
    decodeNominal (.symbol [0x10000023C#33, 0x000001F18#33]) = .ok .sDiv ∧
    decodeNominal (.symbol [0x10000023C#33]) = .ok .sFtr := by decide +kernel
/-- The table's patterns as numbers: the S.HDR row's 66 bits, the S.FTR row's 33 bits, the F.AUTOSET row's match, OP 10. -/
theorem test_table_words :
    decodeTableWord 72 0b100000000000000000010001100101000000000000000000000001000110001110 = some .sHdr ∧
    decodeTableWord 40 0b100000000000000000000001000111100 = some .sFtr ∧
    decodeTableWord 168 0x000000000017000000000000000000000000000000 = some (.fAutoset (fclr.set 15 0x17)) ∧
    decodeTableWord 8 0b10 = some (.recv []) := by decide +kernel
/-- An item pair that no symbol is: a space where the mark should be. -/
theorem test_decode_not_a_symbol :
    decodeNominal (.symbol [0x00000023C#33, 0x000000229#33]) = .error .notASymbol := by decide +kernel

/-! ### One-step tests (95_test_vectors.md) -/

/-- V37. -/
theorem test_idle : field (exec .idle { State.reset with gtimer := 500, guard := true }) (fun t => (t.gtimer, t.guard)) =
    some (500, true) := by decide +kernel
/-- V37: 1000 to 999, the guard stays. -/
theorem test_tick_counts : field (exec .tick { State.reset with gtimer := 1000, guard := true })
    (fun t => (t.gtimer, t.guard)) = some (999, true) := by decide +kernel
/-- V37: 1 to 0, the guard is cleared. -/
theorem test_tick_expires : field (exec .tick { State.reset with gtimer := 1, guard := true })
    (fun t => (t.gtimer, t.guard)) = some (0, false) := by decide +kernel
/-- V15: power, swing and tc at once. -/
theorem test_xmit_v15 : field (exec (.xmit .heat 20 .medium .off true false true) (st .off 0 .auto .off false))
    (fun t => (t.frameOut, t.pwr, t.gtimer)) =
    some (#v[0x83, 0x06, 0x86, 0x40, 0, 0, 0x80, 0, 0x40, 0, 0, 0, 0, 0x06, 0, 0x07, 0, 0, 0x08, 0, 0x0F], true, 1000) := by
  decide +kernel
/-- V14a: auto mode, the target clamped to 17. -/
theorem test_xmit_v14a : field (exec (.xmit .auto 10 .auto .off false false false) (st .off 0 .auto .off true))
    (·.frameOut) =
    some #v[0x83, 0x06, 0x60, 0x91, 0x80, 0, 0x80, 0, 0, 0, 0, 0, 0, 0xF1, 0, 0x17, 0x18, 0, 0x08, 0, 0x07] := by
  decide +kernel
/-- V35g: the first divider is missing. -/
theorem test_recv_v35g :
    field (exec (.recv ((modulate frameV1).take 98 ++ (modulate frameV1).drop 100)) State.reset)
      (fun t => (t.cause, t.info, t.mode)) = some (2, .pos 98, .off) := by decide +kernel
/-- V29a. -/
theorem test_fNone_v29a : after (exec (.fNone frameV29) (st .cool 24 .high .off true)) =
    some (.heat, 16, .auto, .off, true, true) := by decide +kernel
/-- V25. -/
theorem test_fPower_v25 : after (exec (.fPower frameV4) (st .heat 22 .low .off true)) =
    some (.off, 24, .auto, .off, false, true) := by decide +kernel
/-- The V6 frame while PWR = 0: target and fan written, mode not. -/
theorem test_fTemp_v6 : after (exec (.fTemp frameV6) (st .off 20 .low .off false)) =
    some (.off, 22, .auto, .off, false, true) := by decide +kernel
/-- V23. -/
theorem test_fMode_v23 : after (exec (.fMode frameV23) (st .cool 24 .high .off true)) =
    some (.heat, 20, .medium, .off, true, true) := by decide +kernel
/-- V28b: Mode code 5 with power-on. -/
theorem test_fMode_v28b : after (exec (.fMode frameV28b) (st .off 20 .auto .off false)) =
    some (.off, 19, .auto, .off, true, true) := by decide +kernel
/-- V26b: back to OFF. -/
theorem test_fSwing_v26b : after (exec (.fSwing frameV8) (st .cool 22 .high .vertical true)) =
    some (.cool, 22, .high, .off, true, true) := by decide +kernel
/-- V27c: both swing bits under Cmd 0x11, no toggle. -/
theorem test_fFan_v27c : after (exec
    (.fFan #v[0x83, 0x06, 0x81, 0x62, 0, 0, 0x80, 0, 0x40, 0, 0, 0, 0, 0x23, 0, 0x11, 0, 0, 0x08, 0, 0x19])
    (st .cool 22 .high .off true)) = some (.cool, 22, .high, .off, true, true) := by decide +kernel
/-- V32: the least temperature. -/
theorem test_fAutoset_v32 : after (exec (.fAutoset frameV32) (st .auto 25 .auto .off true)) =
    some (.auto, -49, .auto, .off, true, true) := by decide +kernel
/-- V30. -/
theorem test_fOther_v30 : after (exec (.fOther frameV30) (st .cool 24 .high .off true)) =
    some (.fanOnly, 18, .medium, .off, true, true) := by decide +kernel
/-- Cursor and frame after the header, and after a set bit at bit 7 of byte 0 (42_timing_codec.md R161 to R163). -/
theorem test_sHdr : field (exec .sHdr State.reset) (fun t => (t.dm.cur, t.dm.todo.head?, t.dm.failed)) =
    some (2, some (.bit 0 0), false) := by decide +kernel
theorem test_sBit1 : field (exec .sBit1 { State.reset with dm := ⟨grammar.drop 8, 16, fclr, false⟩ })
    (fun t => (t.dm.cur, t.dm.frame[0], t.dm.todo.head?)) = some (18, 0x80, some (.bit 1 0)) := by decide +kernel
theorem test_sBit0 : field (exec .sBit0 { State.reset with dm := ⟨grammar.drop 8, 16, fclr, false⟩ })
    (fun t => (t.dm.cur, t.dm.frame[0], t.dm.todo.head?)) = some (18, 0x00, some (.bit 1 0)) := by decide +kernel
/-- The divider after byte 5 is items 98 and 99 (20_memory.md R58). -/
theorem test_sDiv : field (exec .sDiv { State.reset with dm := ⟨grammar.drop 49, 98, fclr, false⟩ })
    (fun t => (t.dm.cur, t.dm.todo.head?, t.dm.failed)) = some (100, some (.bit 6 0), false) := by decide +kernel
theorem test_sFtr : field (exec .sFtr { State.reset with dm := ⟨grammar.drop 171, 342, fclr, false⟩ })
    (fun t => (t.dm.cur, t.dm.todo, t.dm.failed)) = some (343, [], false) := by decide +kernel
/-- A footer where the header is expected (42_timing_codec.md R167). -/
theorem test_sFtr_unexpected : field (exec .sFtr State.reset) (fun t => (t.dm.cur, t.dm.failed)) =
    some (0, true) := by decide +kernel
/-- A mark and a space at the footer's place fail the decode (log 19). -/
theorem test_pair_at_footer :
    field (step { State.reset with dm := ⟨[.ftr], 342, fclr, false⟩, port := [.request (symbolWord .bit0)] })
      (fun t => (t.dm.cur, t.dm.failed)) = some (342, true) := by decide +kernel
/-- RST from a state in use (70_reset_and_hazards.md R310). -/
theorem test_rst : field (step { st .cool 24 .high .vertical true with guard := true, gtimer := 7, port := [.reset] })
    (fun t => (t.mode, t.fan, t.swing, t.pwr, t.guard, t.gtimer)) = some (.off, .auto, .off, false, false, 0) := by
  decide +kernel

/-! ### The hypotheses of each obligation are met

For every obligation that has hypotheses, a concrete case that meets them all together, clause by clause, at the ends of a
clause's range where it has one. -/

/-- The most negative and the most positive target, the ends of F.OTHER's codes, an empty and a short train. -/
theorem witness_DecodeOfEncodeIsTheInstruction :
    (Instr.xmit .off (-128) .low .vertical true true true).wellFormed = true ∧
    (Instr.xmit .heat 127 .auto .off false false false).wellFormed = true ∧
    (Instr.recv [⟨.mark, 0xFFFFFFFF⟩, ⟨.space, 0⟩]).wellFormed = true ∧
    (Instr.fNone frameV29).wellFormed = true ∧ (Instr.fOther (frameV29.set 15 0x03)).wellFormed = true ∧
    (Instr.fOther (frameV29.set 15 0xFF)).wellFormed = true ∧ (Instr.fOther frameV30).wellFormed = true := by
  decide +kernel

/-- The codes about 5 and 6: 4 and 7 are admitted. -/
theorem witness_RequestWordsRoundTrip :
    (0x0308D#17).extractLsb' 0 3 = 5 ∧ (0x0308E#17).extractLsb' 0 3 = 6 ∧
    ¬ ((0x0308C#17).extractLsb' 0 3 = 5 ∨ (0x0308C#17).extractLsb' 0 3 = 6) ∧
    ¬ ((0x0308F#17).extractLsb' 0 3 = 5 ∨ (0x0308F#17).extractLsb' 0 3 = 6) := by decide

theorem witness_NominalSymbolsDecodeAtTheirPlaces :
    (66 : Fin 101).val ≤ 66 ∧ Symbol.bit0 ∈ candidates (.bit 20 7) ∧ Symbol.bit1 ∈ candidates (.bit 0 0) ∧
    Symbol.hdr ∈ candidates .hdr ∧ Symbol.div ∈ candidates .div ∧ Symbol.ftr ∈ candidates .ftr := by decide

/-- A TICK request, a header symbol and an empty port. -/
theorem witness_StepRunsTheDecodedInstruction :
    decodeHere { State.reset with port := [.request (.op 3 0 []), .reset] } (.op 3 0 []) = .ok .tick ∧
    decodeHere State.reset (symbolWord .hdr) = .ok .sHdr ∧ State.reset.port = [] := by decide +kernel

theorem witness_OtherHostEventsTakeEffect :
    ({ State.reset with port := [.reset] } : State).port = .reset :: [] ∧
    ({ State.reset with port := [.setPins ⟨.std, false⟩] } : State).port = .setPins ⟨.std, false⟩ :: [] ∧
    symbolOfItems State.reset.inst.tolPct (expectedSymbols State.reset.dm) ([0x10000023C#33].map itemOfWord) = none := by
  decide +kernel

/-- Both kinds of step occur. -/
theorem witness_OnlyUnadmittedModesAreRefused :
    step { State.reset with port := [.request (.op 1 5 [])] } = .refused .modeNotAdmitted ∧
    (∃ t, step { State.reset with port := [.request (.op 1 4 [])] } = .next t) ∧ (∃ t, step State.reset = .next t) :=
  ⟨rfl, ⟨_, rfl⟩, ⟨_, rfl⟩⟩

/-- The guard at both ends of its range, and clear. -/
theorem witness_EveryStepKeepsTheGuardInvariant :
    (GuardInv { State.reset with guard := true, gtimer := 1, port := [.request (.op 3 0 [])] } ∧
      ∃ t, step { State.reset with guard := true, gtimer := 1, port := [.request (.op 3 0 [])] } = .next t) ∧
    (GuardInv { State.reset with guard := true, gtimer := 1000 } ∧
      ∃ t, step { State.reset with guard := true, gtimer := 1000 } = .next t) ∧
    (GuardInv State.reset ∧ ∃ t, step State.reset = .next t) :=
  ⟨⟨by unfold GuardInv; decide, _, rfl⟩, ⟨by unfold GuardInv; decide, _, rfl⟩, ⟨by unfold GuardInv; decide, _, rfl⟩⟩

/-- At the header, at the footer, and with the decode complete. -/
theorem witness_EveryStepKeepsTheDemodulatorInTheGrammar :
    (DemodInv { State.reset with port := [.request (symbolWord .hdr)] } ∧
      ∃ t, step { State.reset with port := [.request (symbolWord .hdr)] } = .next t) ∧
    (DemodInv { State.reset with dm := ⟨[.ftr], 342, fclr, false⟩, port := [.request (symbolWord .ftr)] } ∧
      ∃ t, step { State.reset with dm := ⟨[.ftr], 342, fclr, false⟩, port := [.request (symbolWord .ftr)] } = .next t) ∧
    (DemodInv { State.reset with dm := ⟨[], 343, fclr, false⟩ } ∧
      ∃ t, step { State.reset with dm := ⟨[], 343, fclr, false⟩ } = .next t) :=
  ⟨⟨by unfold DemodInv; decide +kernel, _, rfl⟩, ⟨by unfold DemodInv; decide +kernel, _, rfl⟩,
    ⟨by unfold DemodInv; decide +kernel, _, rfl⟩⟩

/-- V28b: the one reception that breaks the relation, with Mode code 5, the least of its range. -/
theorem witness_PowerBeliefAgreesWithModeButForOneReception :
    PowerAgrees (st .off 20 .auto .off false) ∧
    (∃ t, exec (.fMode frameV28b) (st .off 20 .auto .off false) = .next t ∧ ¬ PowerAgrees t) ∧
    (Carries (.fMode frameV28b) (st .off 20 .auto .off false) frameV28b ∧
      frameAccepted State.reset.inst frameV28b = true ∧ getField frameV28b fieldPower = 1 ∧
      getField frameV28b fieldMode = 5) ∧
    (∃ t, exec .tick (st .off 20 .auto .off false) = .next t ∧ PowerAgrees t) ∧
    ∃ t, exec (.xmit .off 0 .auto .off false false false) (st .cool 20 .auto .off false) = .next t :=
  ⟨by unfold PowerAgrees; decide, ⟨_, rfl, by unfold PowerAgrees; decide +kernel⟩,
    ⟨.inr (by simp), by decide +kernel⟩, ⟨_, rfl, by unfold PowerAgrees; decide +kernel⟩, ⟨_, rfl⟩⟩

/-- Two fields of one byte. -/
theorem witness_FieldAccessorsObeyTheirLaws :
    fieldFan ∈ namedFields ∧ fieldSwing1 ∈ namedFields ∧ fieldFan ≠ fieldSwing1 ∧ (3 : Fin 21) ≠ fieldFan.byte := by
  decide

theorem witness_GeneratedChecksumsAreValid : (12 : Fin 21) ≠ 13 ∧ (12 : Fin 21) ≠ 20 := by decide

/-- The ends of both ranges (V52). -/
theorem witness_SingleByteMutationsAreDetected :
    csumChk frameV1 = (false, false) ∧ frameV1[(2 : Fin 21)] ≠ 0x0D ∧ frameV1[(13 : Fin 21)] ≠ 0x06 ∧
    frameV1[(14 : Fin 21)] ≠ 0x01 ∧ frameV1[(20 : Fin 21)] ≠ 0x18 := by decide +kernel

/-- The last mark and the last space. -/
theorem witness_ModulatedItemsStandAtTheirIndices :
    (modulate frameV1)[342]? = some ⟨.mark, 572⟩ ∧ (modulate frameV1)[341]? = some ⟨.space, 553⟩ := by decide +kernel

theorem witness_ModulationIsInjective : modulate frameV1 = modulate frameV1 := rfl

/-- The ends of the three ranges, with durations inside one interval. -/
theorem witness_ToleranceIntervalsOverlapOnlyWhenWide :
    (50 : Fin 101).val ≤ 50 ∧ 51 ≤ (51 : Fin 101).val ∧ (65 : Fin 101).val ≤ 65 ∧
    matchDuration 50 oneSpace 830 = true ∧ matchDuration 50 zeroSpace 829 = true ∧
    matchDuration 65 gapSpace 2786 = true := by decide

/-- Every item of the V2 train moved to an end of its interval at 50 percent (V35m at another tolerance), and the ends 66
and 67 of the other clauses. -/
theorem witness_DemodulationInvertsModulation :
    (66 : Fin 101).val ≤ 66 ∧ 67 ≤ (67 : Fin 101).val ∧ (50 : Fin 101).val ≤ 50 ∧
    ∀ (i : Nat) (it : Item), (modulate frameV1)[i]? = some it →
      ∃ it' : Item, ((modulate frameV1).map fun x => { x with duration := BitVec.ofNat 32 ((x.duration.toNat + 1) / 2) })[i]?
          = some it' ∧ it'.level = it.level ∧ matchDuration 50 it.duration.toNat it'.duration.toNat = true := by
  refine ⟨by decide, by decide, by decide, fun i it h =>
    ⟨{ it with duration := BitVec.ofNat 32 ((it.duration.toNat + 1) / 2) }, by simp [h], rfl, ?_⟩⟩
  have hall : ∀ x ∈ modulate frameV1,
      matchDuration 50 x.duration.toNat (BitVec.ofNat 32 ((x.duration.toNat + 1) / 2)).toNat = true := by decide +kernel
  exact hall it (List.mem_of_getElem? h)

/-- One item short, and the two ends of the cut. -/
theorem witness_ShortTrainsFailAtTheCut :
    ((modulate frameV1).take 342).length < 343 ∧ (0 : Nat) < 343 ∧ (342 : Nat) < 343 := by decide +kernel

/-- Each of the four kinds of place. -/
theorem witness_ExpectedSymbolsMoveTheDecodeOn :
    State.reset.dm.failed = false ∧ State.reset.dm.todo = .hdr :: grammar.drop 1 ∧
    grammar.drop 8 = .bit 0 7 :: grammar.drop 9 ∧ grammar.drop 49 = .div :: grammar.drop 50 ∧
    grammar.drop 171 = .ftr :: [] := by decide +kernel

theorem witness_UnexpectedSymbolsFailTheDecode :
    State.reset.dm.failed = false ∧ State.reset.dm.todo = .hdr :: grammar.drop 1 ∧ Symbol.ftr ∉ candidates .hdr ∧
    (⟨grammar, 0, fclr, true⟩ : Demod).failed = true ∧ (⟨[], 343, fclr, false⟩ : Demod).todo = [] := by decide +kernel

theorem witness_SymbolsOfATrainRebuildTheFrame : State.reset.dm = Demod.start := rfl

theorem witness_XmitSendsTheClampedTargetOutsideAuto : Mode.off ≠ .auto ∧ Mode.cool ≠ .auto := by decide

theorem witness_DryRunDiffersInTheSinkOnly : State.reset.pins.txEn = true := rfl

/-- Two states that differ in DS.SWING, DS.MODE and the guard. -/
theorem witness_XmitFrameIgnoresSwingAndHistory :
    (st .off 0 .auto .off true).pwr = (st .cool 9 .low .vertical true).pwr ∧
    (∃ t, exec (.xmit .auto 22 .auto .off true false true) (st .off 0 .auto .off true) = .next t) ∧
    ∃ t, exec (.xmit .auto 22 .auto .vertical true false true)
      { st .cool 9 .low .vertical true with guard := true, gtimer := 3 } = .next t :=
  ⟨rfl, ⟨_, rfl⟩, ⟨_, rfl⟩⟩

/-- V16 after V1: two requests to be on. -/
theorem witness_RepeatedPowerIntentSendsNoToggle :
    isOn .cool = isOn .heat ∧
    ∃ t u, exec (.xmit .cool 24 .high .off false true false) State.reset = .next t ∧
      exec (.xmit .heat 20 .auto .off true false true) t = .next u :=
  ⟨rfl, _, _, rfl, rfl⟩

theorem witness_WorkedXmitExample : State.reset.pwr = false ∧ State.reset.pins.model = .j191 := ⟨rfl, rfl⟩

/-- The timer at both ends of its range (V36). -/
theorem witness_RecvUnderGuardIsSuppressed :
    ({ State.reset with guard := true, gtimer := 1 } : State).guard = true ∧
    ({ State.reset with guard := true, gtimer := 1000 } : State).guard = true := ⟨rfl, rfl⟩

theorem witness_EveryFrameClassIsInterpreted :
    State.reset.guard = false ∧ frameAccepted State.reset.inst frameV1 = true ∧
    frameAccepted State.reset.inst frameV8 = true ∧ frameAccepted State.reset.inst frameV30 = true := by decide +kernel

/-- The guard set, a wrong checksum, a wrong header byte. -/
theorem witness_EveryFrameClassIsCheckedInOrder :
    ({ State.reset with guard := true, gtimer := 1000 } : State).guard = true ∧
    frameAccepted State.reset.inst frameV33 = false ∧ frameAccepted State.reset.inst frameV34 = false := by decide +kernel

theorem witness_RecvOfAModulatedFrameRunsItsClass :
    ({ State.reset with inst := ⟨0x83, 0x06, 66⟩ } : State).inst.tolPct.val ≤ 66 := by decide

/-- Targets 26 and 27 survive, 25 and 28 do not (V40). -/
theorem witness_OnlyTwoAutoTargetsSurviveTheRoundTrip :
    State.reset.pins.model = .j191 ∧
    (field (exec (.xmit .auto 25 .auto .off false false false) State.reset) (fun t => tempDec .j191 t.frameOut)) = some 26 ∧
    (field (exec (.xmit .auto 26 .auto .off false false false) State.reset) (fun t => tempDec .j191 t.frameOut)) = some 26 ∧
    (field (exec (.xmit .auto 27 .auto .off false false false) State.reset) (fun t => tempDec .j191 t.frameOut)) = some 27 ∧
    (field (exec (.xmit .auto 28 .auto .off false false false) State.reset) (fun t => tempDec .j191 t.frameOut)) = some 29 := by
  decide +kernel

theorem witness_TickCountsTheGuardDown :
    State.reset.gtimer = 0 ∧ ({ State.reset with gtimer := 1 } : State).gtimer ≠ 0 ∧
    ({ State.reset with gtimer := 1000 } : State).gtimer ≠ 0 := by decide

/-- The last suppressed count and the first that is not; a first RECV in the window and one after it. -/
theorem witness_EchoWindowLastsOneThousandTicks :
    (999 < 1000 ∧ 1000 ≤ 1000) ∧
    ∃ u v, exec (.recv []) { State.reset with guard := true, gtimer := 1 } = .next u ∧
      exec (.recv []) u = .next v ∧ v.cause = 2 :=
  ⟨by decide, _, _, rfl, rfl, by decide +kernel⟩

/-- Two sessions just after reset; and two that believe the device on. -/
theorem witness_SeparateSessionReceivesWhatIsSent :
    (State.reset.guard = false ∧ State.reset.pwr = State.reset.pwr ∧ State.reset.inst.tolPct.val ≤ 66 ∧
      State.reset.mode = .off) ∧
    (st .cool 20 .auto .off true).guard = false ∧ (st .cool 20 .auto .off true).pwr = (st .heat 9 .low .off true).pwr ∧
    (st .cool 20 .auto .off true).pins.model = (st .heat 9 .low .off true).pins.model ∧
    (st .cool 20 .auto .off true).inst = (st .heat 9 .low .off true).inst ∧ (st .heat 9 .low .off true).pwr = true ∧
    Mode.auto ≠ .off ∧ Mode.cool ≠ .auto := by decide

/-- P5. -/
theorem witness_OwnPowerOnFrameHeardLateTurnsOff :
    Mode.cool ≠ .off ∧ State.reset.pwr = false ∧ 1000 ≤ 1000 ∧ State.reset.inst.tolPct.val ≤ 66 := by decide

/-- XMIT sets the guard, a successful reception changes a register. -/
theorem witness_OnlyTheListedOperationsWriteState :
    (∃ t, exec (.xmit .cool 24 .high .off false true false) State.reset = .next t ∧ State.reset.guard = false ∧
      t.guard = true ∧ t.frameOut ≠ State.reset.frameOut) ∧
    ∃ t, exec (.fFan frameV1) State.reset = .next t ∧ t.pwr ≠ State.reset.pwr ∧ t.publish = true :=
  ⟨⟨_, rfl, by decide +kernel⟩, ⟨_, rfl, by decide +kernel⟩⟩

/-! ### The same where the hypotheses speak of a demodulated train

Each train is demodulated once, here; the cases below cite these. -/

/-- The V1 frame with Sleep and bit 3 of byte 5 set: V33's double flip, which the checksums miss. -/
def frameFlip : Frame := (frameV1.set 2 0x0D).set 5 0x08

theorem demod_v1 : demodulate 25 (modulate frameV1) = .ok frameV1 := by decide +kernel
theorem demod_v8 : demodulate 25 (modulate frameV8) = .ok frameV8 := by decide +kernel
theorem demod_v28b : demodulate 25 (modulate frameV28b) = .ok frameV28b := by decide +kernel
theorem demod_v32 : demodulate 25 (modulate frameV32) = .ok frameV32 := by decide +kernel
theorem demod_v33 : demodulate 25 (modulate frameV33) = .ok frameV33 := by decide +kernel
theorem demod_v34 : demodulate 25 (modulate frameV34) = .ok frameV34 := by decide +kernel
theorem demod_flip : demodulate 25 (modulate frameFlip) = .ok frameFlip := by decide +kernel
/-- V35h: no footer. -/
theorem demod_cut : demodulate 25 ((modulate frameV1).take 342) = .fail 342 := by decide +kernel

/-- V20. -/
theorem test_recv_v20 : after (exec (.recv (modulate frameV1)) (st .off 0 .auto .off false)) =
    some (.cool, 24, .high, .off, true, true) := by
  show after (.next (receive (demodulate 25 (modulate frameV1)) _)) = _
  rw [demod_v1]; decide +kernel

theorem witness_ItemsAfterTheFooterAreIgnored : demodulate 25 (modulate frameV1) = .ok frameV1 := demod_v1

/-- The first and the last position of a mismatch (V35a, V35h). -/
theorem witness_RecvReportsTimingMismatch :
    State.reset.guard = false ∧ demodulate State.reset.inst.tolPct [] = .fail 0 ∧
    demodulate State.reset.inst.tolPct ((modulate frameV1).take 342) = .fail 342 := ⟨rfl, by decide +kernel, demod_cut⟩

/-- V33. -/
theorem witness_RecvReportsChecksumMismatch :
    State.reset.guard = false ∧ demodulate State.reset.inst.tolPct (modulate frameV33) = .ok frameV33 ∧
    csumChk frameV33 ≠ (false, false) := ⟨rfl, demod_v33, by decide +kernel⟩

/-- V34. -/
theorem witness_RecvReportsHeaderMismatch :
    State.reset.guard = false ∧ demodulate State.reset.inst.tolPct (modulate frameV34) = .ok frameV34 ∧
    csumChk frameV34 = (false, false) ∧ frameV34[0] ≠ State.reset.inst.hdr0 :=
  ⟨rfl, demod_v34, by decide +kernel, by decide +kernel⟩

/-- A failed, a successful and a suppressed RECV. -/
theorem witness_FailedRecvChangesNoDeviceState :
    (∃ t, exec (.recv []) State.reset = .next t ∧ t.ok = false) ∧
    (∃ t, exec (.recv (modulate frameV1)) State.reset = .next t ∧ t.ok = true) ∧ State.reset.guard = false ∧
    ∃ t, exec (.recv []) { State.reset with guard := true, gtimer := 1 } = .next t ∧ t.ok = false := by
  refine ⟨⟨_, rfl, by decide +kernel⟩, ⟨_, rfl, ?_⟩, rfl, ⟨_, rfl, by decide +kernel⟩⟩
  show (receive (demodulate 25 (modulate frameV1)) _).ok = true
  rw [demod_v1]; decide +kernel

/-- Power 0 (V26) and Power 1 (V20, V21) with PWR either way, and Mode codes 2 and 5 (V28b). -/
theorem witness_RecvMovesPowerAndModeByTheTable :
    State.reset.guard = false ∧
    (demodulate State.reset.inst.tolPct (modulate frameV8) = .ok frameV8 ∧
      frameAccepted State.reset.inst frameV8 = true ∧ getField frameV8 fieldPower = 0) ∧
    (demodulate State.reset.inst.tolPct (modulate frameV1) = .ok frameV1 ∧
      frameAccepted State.reset.inst frameV1 = true ∧ getField frameV1 fieldPower = 1 ∧ getField frameV1 fieldMode = 2) ∧
    (demodulate State.reset.inst.tolPct (modulate frameV28b) = .ok frameV28b ∧
      frameAccepted State.reset.inst frameV28b = true ∧ getField frameV28b fieldMode = 5) ∧
    (st .off 0 .auto .off false).pwr = false ∧ (st .cool 0 .auto .off true).pwr = true :=
  ⟨rfl, ⟨demod_v8, by decide +kernel⟩, ⟨demod_v1, by decide +kernel⟩, ⟨demod_v28b, by decide +kernel⟩, rfl, rfl⟩

/-- The auto branch at ATO 7, no auto branch, and a swing toggle. -/
theorem witness_RecvInterpretsAnAcceptedFrame :
    State.reset.guard = false ∧
    (demodulate State.reset.inst.tolPct (modulate frameV32) = .ok frameV32 ∧
      frameAccepted State.reset.inst frameV32 = true ∧ getField frameV32 fieldMode = 1 ∧
      getField frameV32 fieldAto = 7) ∧
    (demodulate State.reset.inst.tolPct (modulate frameV8) = .ok frameV8 ∧
      frameAccepted State.reset.inst frameV8 = true ∧ getField frameV8 fieldMode = 2 ∧ swingRequested frameV8 = true) :=
  ⟨rfl, ⟨demod_v32, by decide +kernel⟩, ⟨demod_v8, by decide +kernel⟩⟩

theorem witness_RecvRunsTheFrameClassOfItsTrain :
    demodulate State.reset.inst.tolPct (modulate frameV8) = .ok frameV8 := demod_v8

/-- Each of the three that may change DS.SWING does. -/
theorem witness_OnlySwingFramesToggleSwing :
    (Instr.fSwing frameV8).wellFormed = true ∧
    (∃ t, exec (.fSwing frameV8) State.reset = .next t ∧ t.swing ≠ State.reset.swing) ∧
    (∃ t, exec (.recv (modulate frameV8)) State.reset = .next t ∧ t.swing ≠ State.reset.swing) ∧
    ∃ t, exec (.xmit .off 0 .auto .vertical false false false) State.reset = .next t ∧ t.swing ≠ State.reset.swing := by
  refine ⟨by decide, ⟨_, rfl, by decide +kernel⟩, ⟨_, rfl, ?_⟩, ⟨_, rfl, by decide +kernel⟩⟩
  show (receive (demodulate 25 (modulate frameV8)) _).swing ≠ _
  rw [demod_v8]; decide +kernel

theorem witness_TwoSwingFramesRestoreTheSwing :
    State.reset.guard = false ∧ demodulate State.reset.inst.tolPct (modulate frameV8) = .ok frameV8 ∧
    frameAccepted State.reset.inst frameV8 = true ∧ swingRequested frameV8 = true :=
  ⟨rfl, demod_v8, by decide +kernel, by decide +kernel⟩

theorem witness_UnexaminedFieldsDoNotMatter :
    demodulate State.reset.inst.tolPct (modulate frameV1) = .ok frameV1 ∧
    demodulate State.reset.inst.tolPct (modulate frameFlip) = .ok frameFlip ∧
    frameAccepted State.reset.inst frameV1 = true ∧ frameAccepted State.reset.inst frameFlip = true ∧
    ∀ x ∈ [fieldFan, fieldPower, fieldAto, fieldSwing1, fieldMode, fieldTemp, fieldSwing2, fieldCmd, fieldPad1],
      getField frameV1 x = getField frameFlip x :=
  ⟨demod_v1, demod_flip, by decide +kernel, by decide +kernel, by decide +kernel⟩

end Sys2Proof.Tests
end

section
/-! PROOFS. What a step does when the port holds an instruction or nothing (00_scope.md R17, 45_host_ops.md R261). -/

namespace Sys2Proof.Machine

/-- An empty port is fetched as IDLE (45_host_ops.md R261). -/
theorem fetch_of_port_nil {s : State} (hport : s.port = []) : fetch s = .run .idle s := by
  simp [fetch, hport]

/-- A request that decodes is fetched as its instruction, and only the port moves on (00_scope.md R17). -/
theorem fetch_of_decodeHere_ok {s : State} {w : PortWord} {rest : List HostEvent} {i : Instr}
    (hport : s.port = .request w :: rest) (hdec : decodeHere s w = .ok i) :
    fetch s = .run i { s with port := rest } := by
  simp [fetch, hport, hdec]

/-- The step hands a fetched instruction to `exec`, in the state it was fetched with. -/
theorem step_of_fetch_run {s s' : State} {i : Instr} (hf : fetch s = .run i s') : step s = exec i s' := by
  simp only [step, hf]

/-- Settles O6: each clause names what the port holds, hence what is fetched, hence what is run. -/
theorem stepRunsTheDecodedInstruction : Obligations.StepRunsTheDecodedInstruction := by
  unfold Obligations.StepRunsTheDecodedInstruction
  constructor
  · intro s w rest i hport hdec
    exact step_of_fetch_run (fetch_of_decodeHere_ok hport hdec)
  · intro s hport
    exact step_of_fetch_run (fetch_of_port_nil hport)

end Sys2Proof.Machine
end

section
/-! PROOFS. Who writes what, and the invariants of a step: the guard with its timer, the demodulator's place in the train
grammar (10_state.md R28, R29, R30, R36, R40). -/

namespace Sys2Proof.Machine

/-! ### What an instruction answers -/

/-- The request is an XMIT, whatever its operands. -/
def IsXmit (i : Instr) : Prop := ∃ m g f w tc mc sr, i = .xmit m g f w tc mc sr

/-- What an instruction that answers a next state has made of the state: `exec_cases` with RECV and the frame classes
joined as receive attempts. -/
theorem exec_next_cases {i : Instr} {s t : State} (h : exec i s = .next t) :
    t = beginOp s ∨
    t = tickGuard (beginOp s) ∨
    (IsXmit i ∧ ∃ built m g f w,
      t = presentFrame built (armGuard (updatePower m (latchRequest m g f w (beginOp s))))) ∨
    (∃ r, t = receive r s) ∨
    (∃ y, t = acceptSymbol y s) := by
  rcases exec_cases i s with ⟨_, he⟩ | ⟨_, he⟩ | ⟨m, g, f, w, tc, mc, sr, hi, he⟩ | ⟨rx, _, he⟩ | ⟨f, _, he⟩ |
      ⟨y, _, he⟩ <;> obtain rfl := Host.Outcome.next.inj (he.symm.trans h)
  · exact .inl rfl
  · exact .inr (.inl rfl)
  · exact .inr (.inr (.inl ⟨⟨m, g, f, w, tc, mc, sr, hi⟩, _, m, g, f, w, rfl⟩))
  · exact .inr (.inr (.inr (.inl ⟨_, rfl⟩)))
  · exact .inr (.inr (.inr (.inl ⟨_, rfl⟩)))
  · exact .inr (.inr (.inr (.inr ⟨y, rfl⟩)))

/-! ### What a receive attempt writes -/

/-- A receive attempt is suppressed, fails or interprets a frame: the five ends of `receive_cases` without their
conditions. -/
theorem receive_ends (r : DemodResult) (s : State) :
    receive r s = suppressEcho (receiveStart s) ∨
    (∃ cause info, receive r s = raise cause info (receiveStart s)) ∨
    (∃ f, receive r s = interpretFrame f (receiveStart s)) := by
  rcases receive_cases r s with ⟨_, h⟩ | ⟨_, pos, _, h⟩ | ⟨_, f, _, _, h⟩ | ⟨_, f, _, _, _, h⟩ | ⟨_, f, _, _, h⟩
  · exact .inl h
  · exact .inr (.inl ⟨_, _, h⟩)
  · exact .inr (.inl ⟨_, _, h⟩)
  · exact .inr (.inl ⟨_, _, h⟩)
  · exact .inr (.inr ⟨f, h⟩)

/-- However it ends, a receive attempt restarts the demodulator and leaves FRAME_OUT, the pins and the instance's
constants (10_state.md R30, R36, R40). -/
theorem receive_frame (r : DemodResult) (s : State) :
    (receive r s).dm = Demod.start ∧ (receive r s).frameOut = s.frameOut ∧ (receive r s).pins = s.pins ∧
      (receive r s).inst = s.inst := by
  rcases receive_ends r s with h | ⟨cause, info, h⟩ | ⟨f, h⟩
  · simp [h, suppressEcho, receiveStart]
  · simp [h, receiveStart]
  · simp [h, interpretFrame, receiveStart]

/-- A receive attempt uses a set guard up and leaves a clear one (44_decoder.md R221). -/
theorem receive_guard_cases (r : DemodResult) (s : State) :
    SameGuard s (receive r s) ∨ ((receive r s).guard = false ∧ (receive r s).gtimer = 0) := by
  rcases receive_ends r s with h | ⟨cause, info, h⟩ | ⟨f, h⟩
  · exact .inr (by simp [h, suppressEcho])
  · exact .inl (by simp [SameGuard, h, receiveStart])
  · exact .inl (by simp [SameGuard, h, interpretFrame, receiveStart])

/-- A receive attempt that does not pulse PUBLISH leaves DeviceState and PWR (44_decoder.md R232). -/
theorem receive_device_cases (r : DemodResult) (s : State) :
    (SameDevice s (receive r s) ∧ (receive r s).pwr = s.pwr) ∨ (receive r s).publish = true := by
  rcases receive_ends r s with h | ⟨cause, info, h⟩ | ⟨f, h⟩
  · exact .inl (by simp [SameDevice, h, suppressEcho, receiveStart])
  · exact .inl (by simp [SameDevice, h, receiveStart])
  · exact .inr (by simp [h, interpretFrame])

/-! ### What an instruction writes -/

/-- All an instruction can do to the guard: leave it, count it down, arm it (XMIT alone), clear it. -/
theorem exec_guard_cases {i : Instr} {s t : State} (h : exec i s = .next t) :
    SameGuard s t ∨ t = tickGuard (beginOp s) ∨ (IsXmit i ∧ t.guard = true ∧ t.gtimer = guardWindow) ∨
      (t.guard = false ∧ t.gtimer = 0) := by
  rcases exec_next_cases h with rfl | rfl | ⟨hx, built, m, g, f, w, rfl⟩ | ⟨r, rfl⟩ | ⟨y, rfl⟩
  · exact .inl ⟨rfl, rfl⟩
  · exact .inr (.inl rfl)
  · exact .inr (.inr (.inl ⟨hx, rfl, rfl⟩))
  · rcases receive_guard_cases r s with hsame | hclear
    · exact .inl hsame
    · exact .inr (.inr (.inr hclear))
  · exact .inl ⟨rfl, rfl⟩

/-- A DeviceState register or PWR changes only by XMIT or with a PUBLISH pulse. -/
theorem exec_device_cases {i : Instr} {s t : State} (h : exec i s = .next t) :
    (SameDevice s t ∧ t.pwr = s.pwr) ∨ IsXmit i ∨ t.publish = true := by
  rcases exec_next_cases h with rfl | rfl | ⟨hx, _⟩ | ⟨r, rfl⟩ | ⟨y, rfl⟩
  · exact .inl ⟨⟨rfl, rfl, rfl, rfl⟩, rfl⟩
  · exact .inl (by simp [SameDevice])
  · exact .inr (.inl hx)
  · exact (receive_device_cases r s).imp_right .inr
  · exact .inl ⟨⟨rfl, rfl, rfl, rfl⟩, rfl⟩

/-- FRAME_OUT changes only by XMIT. -/
theorem exec_frameOut_cases {i : Instr} {s t : State} (h : exec i s = .next t) :
    t.frameOut = s.frameOut ∨ IsXmit i := by
  rcases exec_next_cases h with rfl | rfl | ⟨hx, _⟩ | ⟨r, rfl⟩ | ⟨y, rfl⟩
  · exact .inl rfl
  · exact .inl (by simp)
  · exact .inr hx
  · obtain ⟨_, hframeOut, _, _⟩ := receive_frame r s
    exact .inl hframeOut
  · exact .inl rfl

/-- No instruction changes the pins or the instance's constants. -/
theorem exec_pins_inst {i : Instr} {s t : State} (h : exec i s = .next t) : t.pins = s.pins ∧ t.inst = s.inst := by
  rcases exec_next_cases h with rfl | rfl | ⟨_, built, m, g, f, w, rfl⟩ | ⟨r, rfl⟩ | ⟨y, rfl⟩
  · exact ⟨rfl, rfl⟩
  · simp
  · simp
  · obtain ⟨_, _, hpins, hinst⟩ := receive_frame r s
    exact ⟨hpins, hinst⟩
  · exact ⟨rfl, rfl⟩

/-- All an instruction can do to the demodulator: leave it, restart it, have a symbol arrive. -/
theorem exec_dm_cases {i : Instr} {s t : State} (h : exec i s = .next t) :
    t.dm = s.dm ∨ t.dm = Demod.start ∨ ∃ y, t.dm = s.dm.accept y := by
  rcases exec_next_cases h with rfl | rfl | ⟨_, built, m, g, f, w, rfl⟩ | ⟨r, rfl⟩ | ⟨y, rfl⟩
  · exact .inl rfl
  · exact .inl (by simp)
  · exact .inl (by simp)
  · obtain ⟨hdm, _, _, _⟩ := receive_frame r s
    exact .inr (.inl hdm)
  · exact .inr (.inr ⟨y, rfl⟩)

/-! ### The guard invariant -/

theorem guardInv_of_sameGuard {s t : State} (hsame : SameGuard s t) (hinv : GuardInv s) : GuardInv t := by
  obtain ⟨hguard, hgtimer⟩ := hsame
  unfold GuardInv at hinv ⊢
  rwa [hguard, hgtimer]

theorem guardInv_of_clear {t : State} (hguard : t.guard = false) (hgtimer : t.gtimer = 0) : GuardInv t := by
  simp [GuardInv, hguard, hgtimer]

theorem guardInv_of_armed {t : State} (hguard : t.guard = true) (hgtimer : t.gtimer = guardWindow) : GuardInv t := by
  simp [GuardInv, hguard, hgtimer, guardWindow]

/-- Counting down from 1 clears the guard, from above 1 it leaves the timer positive (45_host_ops.md R260). -/
theorem tickGuard_guardInv {s : State} (hinv : GuardInv s) : GuardInv (tickGuard s) := by
  rcases tickGuard_cases s with ⟨_, he⟩ | ⟨_, he⟩ | ⟨hne0, hne1, he⟩ <;> rw [he]
  · exact hinv
  · exact guardInv_of_clear rfl rfl
  · obtain ⟨hiff, hle⟩ := hinv
    have hguard : s.guard = true := hiff.mpr hne0
    have hpos : s.gtimer - 1 ≠ 0 := by bv_omega
    exact ⟨iff_of_true hguard hpos, by bv_omega⟩

theorem exec_guardInv {i : Instr} {s t : State} (hinv : GuardInv s) (h : exec i s = .next t) : GuardInv t := by
  rcases exec_guard_cases h with hsame | rfl | ⟨_, hguard, hgtimer⟩ | ⟨hguard, hgtimer⟩
  · exact guardInv_of_sameGuard hsame hinv
  · exact tickGuard_guardInv (guardInv_of_sameGuard ⟨rfl, rfl⟩ hinv)
  · exact guardInv_of_armed hguard hgtimer
  · exact guardInv_of_clear hguard hgtimer

/-- Settles O10: an instruction runs in a state that differs at most in the port, RST clears the guard, and the other
host events leave it. -/
theorem everyStepKeepsTheGuardInvariant : Obligations.EveryStepKeepsTheGuardInvariant := by
  unfold Obligations.EveryStepKeepsTheGuardInvariant
  intro s t hinv hstep
  rcases step_next_cases hstep with ⟨i, s', hs', hexec⟩ | ⟨rest, rfl⟩ | ⟨p, rest, rfl⟩ | ⟨rest, rfl⟩
  · have hinv' : GuardInv s' := by rcases hs' with rfl | ⟨rest, rfl⟩ <;> exact hinv
    exact exec_guardInv hinv' hexec
  · exact guardInv_of_clear rfl rfl
  · exact guardInv_of_sameGuard ⟨rfl, rfl⟩ hinv
  · exact guardInv_of_sameGuard ⟨rfl, rfl⟩ hinv

/-! ### The demodulator's place in the grammar -/

/-- `DemodInv` as a property of the demodulator alone. -/
def Demod.InGrammar (d : Demod) : Prop := d.todo <:+ grammar ∧ d.cur + itemsOf d.todo = 343

theorem demodInv_iff (s : State) : DemodInv s ↔ s.dm.InGrammar := Iff.rfl

theorem itemsOf_cons (p : Place) (ps : List Place) :
    itemsOf (p :: ps) = (symbolItems (placeSymbol fclr p)).length + itemsOf ps := by
  simp [itemsOf]

/-- A whole train has 343 items (20_memory.md R58). -/
theorem itemsOf_grammar : itemsOf grammar = 343 := by decide +kernel

theorem start_inGrammar : Demod.start.InGrammar := ⟨List.suffix_refl _, by simp [Demod.start, itemsOf_grammar]⟩

theorem demodInv_of_start {s : State} (hdm : s.dm = Demod.start) : DemodInv s := by
  rw [demodInv_iff, hdm]
  exact start_inGrammar

/-- Failing a decode keeps its place and its cursor. -/
theorem fail_inGrammar {d : Demod} (hd : d.InGrammar) : d.fail.InGrammar := by
  rcases fail_cases d with he | he <;> rw [he] <;> exact hd

/-- An expected symbol takes one place off the grammar and moves the cursor by that place's items, the same number for
every symbol that may stand there. -/
theorem accept_inGrammar {d : Demod} (hd : d.InGrammar) (y : Symbol) : (d.accept y).InGrammar := by
  rcases accept_cases d y with ⟨p, rest, _, htodo, hy, he⟩ | ⟨p, rest, _, _, _, he⟩ | ⟨_, he⟩ <;> rw [he]
  · obtain ⟨hsuffix, hcur⟩ := hd
    rw [htodo] at hsuffix hcur
    have hlen : (symbolItems y).length = (symbolItems (placeSymbol fclr p)).length :=
      candidates_length hy (placeSymbol_mem fclr p)
    refine ⟨(List.suffix_cons p rest).trans hsuffix, ?_⟩
    show d.cur + (symbolItems y).length + itemsOf rest = 343
    rw [hlen, Nat.add_assoc, ← itemsOf_cons, hcur]
  · exact hd
  · exact hd

theorem exec_demodInv {i : Instr} {s t : State} (hinv : DemodInv s) (h : exec i s = .next t) : DemodInv t := by
  rw [demodInv_iff] at hinv ⊢
  rcases exec_dm_cases h with hdm | hdm | ⟨y, hdm⟩ <;> rw [hdm]
  · exact hinv
  · exact start_inGrammar
  · exact accept_inGrammar hinv y

/-- Settles O12: an instruction runs in a state that differs at most in the port, RST restarts the demodulator, the pins
leave it, and items that are no symbol fail it where it stands. -/
theorem everyStepKeepsTheDemodulatorInTheGrammar : Obligations.EveryStepKeepsTheDemodulatorInTheGrammar := by
  unfold Obligations.EveryStepKeepsTheDemodulatorInTheGrammar
  intro s t hinv hstep
  rcases step_next_cases hstep with ⟨i, s', hs', hexec⟩ | ⟨rest, rfl⟩ | ⟨p, rest, rfl⟩ | ⟨rest, rfl⟩
  · have hinv' : DemodInv s' := by rcases hs' with rfl | ⟨rest, rfl⟩ <;> exact hinv
    exact exec_demodInv hinv' hexec
  · exact demodInv_of_start rfl
  · exact hinv
  · exact fail_inGrammar hinv

/-! ### Who writes what -/

/-- Counting down never sets the guard (45_host_ops.md R260). -/
theorem tickGuard_guard_of_clear {s : State} (hclear : s.guard = false) : (tickGuard s).guard = false := by
  rcases tickGuard_cases s with ⟨_, he⟩ | ⟨_, he⟩ | ⟨_, _, he⟩
  · rw [he, hclear]
  · rw [he]
  · rw [he, hclear]

/-- Only XMIT sets a clear guard. -/
theorem isXmit_of_exec_sets_guard {i : Instr} {s t : State} (h : exec i s = .next t) (hclear : s.guard = false)
    (hset : t.guard = true) : IsXmit i := by
  rcases exec_guard_cases h with ⟨hsame, _⟩ | rfl | ⟨hx, _⟩ | ⟨hfalse, _⟩
  · exact absurd (hset.symm.trans (hsame.trans hclear)) (by decide)
  · exact absurd (hset.symm.trans (tickGuard_guard_of_clear (s := beginOp s) hclear)) (by decide)
  · exact hx
  · exact absurd (hset.symm.trans hfalse) (by decide)

/-- Settles O60: one clause for each group of fields. -/
theorem onlyTheListedOperationsWriteState : Obligations.OnlyTheListedOperationsWriteState := by
  unfold Obligations.OnlyTheListedOperationsWriteState
  intro i s t h
  exact ⟨isXmit_of_exec_sets_guard h, (exec_device_cases h).resolve_left, (exec_frameOut_cases h).resolve_left,
    exec_pins_inst h⟩

/-! ### Reset -/

/-- Settles O11: at reset the guard is clear, the demodulator is at its start and the device is believed off. -/
theorem resetMeetsTheInvariants : Obligations.ResetMeetsTheInvariants := by
  unfold Obligations.ResetMeetsTheInvariants
  exact ⟨guardInv_of_clear rfl rfl, demodInv_of_start rfl, rfl⟩

end Sys2Proof.Machine
end

section
/-! PROOFS. The image of a frame in a train: the 343 items of MOD at the places of the index map (20_memory.md R58). -/

namespace Sys2Proof.Machine

/-! ### Pair symbols closed by a footer -/

/-- Every symbol but the footer is a mark and a space (30_encoding.md R90). -/
theorem symbolItems_of_ne_ftr {y : Symbol} (hy : y ≠ .ftr) :
    ∃ sp, symbolSpace y = some sp ∧ symbolItems y = [markItem (symbolMark y), spaceItem sp] := by
  cases y with
  | ftr => exact absurd rfl hy
  | _ => exact ⟨_, rfl, rfl⟩

theorem length_flatMap_symbolItems {ys : List Symbol} (hftr : Symbol.ftr ∉ ys) :
    ((ys ++ [Symbol.ftr]).flatMap symbolItems).length = 2 * ys.length + 1 := by
  induction ys with
  | nil => rfl
  | cons y ys ih =>
    obtain ⟨hy, hys⟩ := List.ne_and_not_mem_of_not_mem_cons hftr
    obtain ⟨sp, _, hitems⟩ := symbolItems_of_ne_ftr hy.symm
    simp only [List.cons_append, List.flatMap_cons, List.length_append, hitems, ih hys, List.length_cons,
      List.length_nil]
    omega

/-- With pairs before the footer, symbol `n` has its mark at item `2n` and its space, if any, at item `2n + 1`. -/
theorem getElem?_flatMap_symbolItems {ys : List Symbol} (hftr : Symbol.ftr ∉ ys) (n : Nat) :
    ((ys ++ [Symbol.ftr]).flatMap symbolItems)[2 * n]? =
      (ys ++ [Symbol.ftr])[n]?.map (fun y => markItem (symbolMark y)) ∧
    ((ys ++ [Symbol.ftr]).flatMap symbolItems)[2 * n + 1]? =
      (ys ++ [Symbol.ftr])[n]?.bind (fun y => (symbolSpace y).map spaceItem) := by
  induction ys generalizing n with
  | nil => cases n <;> exact ⟨rfl, rfl⟩
  | cons y ys ih =>
    obtain ⟨hy, hys⟩ := List.ne_and_not_mem_of_not_mem_cons hftr
    obtain ⟨sp, hspace, hitems⟩ := symbolItems_of_ne_ftr hy.symm
    simp only [List.cons_append, List.flatMap_cons, hitems]
    cases n with
    | zero => simp [hspace]
    | succ n => exact ih hys n

/-! ### The items of MOD, place by place -/

/-- The places before the footer. -/
def pairPlaces : List Place := grammar.dropLast

/-- The footer closes the grammar and stands nowhere else (30_encoding.md R96). -/
theorem grammar_eq_pairPlaces_append : grammar = pairPlaces ++ [.ftr] := by decide +kernel

theorem ftr_notMem_pairPlaces : Place.ftr ∉ pairPlaces := by decide +kernel

theorem bitSymbol_ne_ftr (b : Bool) : bitSymbol b ≠ .ftr := by cases b <;> decide

theorem placeSymbol_eq_ftr_iff (f : Frame) (p : Place) : placeSymbol f p = .ftr ↔ p = .ftr := by
  cases p with
  | bit k j => exact iff_of_false (bitSymbol_ne_ftr f[k][j]) (by simp)
  | _ => simp [placeSymbol]

/-- The symbols of a frame before its footer. -/
def pairSymbols (f : Frame) : List Symbol := pairPlaces.map (placeSymbol f)

theorem ftr_notMem_pairSymbols (f : Frame) : Symbol.ftr ∉ pairSymbols f := by
  simpa [pairSymbols, placeSymbol_eq_ftr_iff] using ftr_notMem_pairPlaces

theorem pairSymbols_append_ftr (f : Frame) : pairSymbols f ++ [.ftr] = grammar.map (placeSymbol f) := by
  rw [grammar_eq_pairPlaces_append, List.map_append]
  rfl

theorem modulate_eq_pairSymbols (f : Frame) : modulate f = (pairSymbols f ++ [Symbol.ftr]).flatMap symbolItems := by
  rw [pairSymbols_append_ftr, List.flatMap_map, modulate_eq_grammar]

/-- MOD gives 343 items whatever the frame (42_timing_codec.md R159). -/
theorem modulate_length (f : Frame) : (modulate f).length = 343 := by
  rw [modulate_eq_pairSymbols, length_flatMap_symbolItems (ftr_notMem_pairSymbols f)]
  simp [pairSymbols, pairPlaces, grammar_length]

/-- The mark of the symbol at place `n` of the grammar is item `2n` of the train. -/
theorem modulate_getElem?_even (f : Frame) (n : Nat) :
    (modulate f)[2 * n]? = grammar[n]?.map fun p => markItem (symbolMark (placeSymbol f p)) := by
  obtain ⟨hmark, _⟩ := getElem?_flatMap_symbolItems (ftr_notMem_pairSymbols f) n
  rw [modulate_eq_pairSymbols, hmark, pairSymbols_append_ftr, List.getElem?_map, Option.map_map]
  rfl

/-- The space of the symbol at place `n` of the grammar is item `2n + 1` of the train; the footer has none. -/
theorem modulate_getElem?_odd (f : Frame) (n : Nat) :
    (modulate f)[2 * n + 1]? = grammar[n]?.bind fun p => (symbolSpace (placeSymbol f p)).map spaceItem := by
  obtain ⟨_, hspace⟩ := getElem?_flatMap_symbolItems (ftr_notMem_pairSymbols f) n
  rw [modulate_eq_pairSymbols, hspace, pairSymbols_append_ftr, List.getElem?_map, Option.bind_map]
  rfl

/-- A known place gives the mark at its item index. -/
theorem modulate_mark_of_place (f : Frame) {n : Nat} {p : Place} (hp : grammar[n]? = some p) :
    (modulate f)[2 * n]? = some (markItem (symbolMark (placeSymbol f p))) := by
  rw [modulate_getElem?_even, hp]
  rfl

/-- A known place of two items gives the space after its mark. -/
theorem modulate_space_of_place (f : Frame) {n sp : Nat} {p : Place} (hp : grammar[n]? = some p)
    (hsp : symbolSpace (placeSymbol f p) = some sp) : (modulate f)[2 * n + 1]? = some (spaceItem sp) := by
  rw [modulate_getElem?_odd, hp, Option.bind_some, hsp]
  rfl

/-- Marks and spaces alternate in a train, a mark first (20_memory.md R59). -/
theorem modulate_level_iff {f : Frame} {i : Nat} {it : Item} (hit : (modulate f)[i]? = some it) :
    it.level = .mark ↔ i % 2 = 0 := by
  rcases Nat.even_or_odd' i with ⟨n, rfl | rfl⟩
  · rw [modulate_getElem?_even, Option.map_eq_some_iff] at hit
    obtain ⟨p, _, rfl⟩ := hit
    simp [markItem]
  · rw [modulate_getElem?_odd, Option.bind_eq_some_iff] at hit
    obtain ⟨p, _, hspace⟩ := hit
    obtain ⟨sp, _, rfl⟩ := Option.map_eq_some_iff.mp hspace
    simp [spaceItem, Nat.add_mod]

/-! ### The index map -/

/-- The place of bit `j` of byte `k` in the grammar: the header, eight places for each byte before, and the dividers
passed (20_memory.md R58). -/
def bitPlaceIndex (k : Fin 21) (j : Fin 8) : Nat :=
  1 + 8 * k.val + j.val + if k.val ≤ 5 then 0 else if k.val ≤ 13 then 1 else 2

theorem grammar_bitPlaceIndex : ∀ (k : Fin 21) (j : Fin 8), grammar[bitPlaceIndex k j]? = some (.bit k j) := by
  decide +kernel

theorem two_mul_bitPlaceIndex (k : Fin 21) (j : Fin 8) :
    2 * bitPlaceIndex k j =
      2 + 16 * k.val + 2 * j.val + (if k.val ≤ 5 then 0 else if k.val ≤ 13 then 2 else 4) := by
  unfold bitPlaceIndex
  split_ifs <;> omega

theorem symbolMark_bitSymbol (b : Bool) : symbolMark (bitSymbol b) = bitMark := by cases b <;> rfl

theorem symbolSpace_bitSymbol (b : Bool) : symbolSpace (bitSymbol b) = some (if b then oneSpace else zeroSpace) := by
  cases b <;> rfl

/-- A bit's mark, whatever the bit. -/
theorem modulate_bit_mark (f : Frame) (k : Fin 21) (j : Fin 8) :
    (modulate f)[2 * bitPlaceIndex k j]? = some ⟨.mark, 572⟩ := by
  rw [modulate_mark_of_place f (grammar_bitPlaceIndex k j), placeSymbol, symbolMark_bitSymbol]
  rfl

/-- A bit's space, which tells the bit. -/
theorem modulate_bit_space (f : Frame) (k : Fin 21) (j : Fin 8) :
    (modulate f)[2 * bitPlaceIndex k j + 1]? = some ⟨.space, if f[k][j] then 1659 else 553⟩ := by
  rw [modulate_space_of_place f (grammar_bitPlaceIndex k j) (symbolSpace_bitSymbol f[k][j])]
  cases f[k][j] <;> rfl

theorem grammar_hdr : grammar[0]? = some .hdr := by decide +kernel
theorem grammar_firstDiv : grammar[49]? = some .div := by decide +kernel
theorem grammar_secondDiv : grammar[114]? = some .div := by decide +kernel
theorem grammar_ftr : grammar[171]? = some .ftr := by decide +kernel

/-- Settles O17: place `n` of the grammar has its items at `2n` and `2n + 1`, and the places of the header, the bits, the
dividers and the footer are known. -/
theorem modulatedItemsStandAtTheirIndices : Obligations.ModulatedItemsStandAtTheirIndices := by
  unfold Obligations.ModulatedItemsStandAtTheirIndices
  intro f
  refine ⟨modulate_length f, modulate_mark_of_place f grammar_hdr, modulate_space_of_place f grammar_hdr rfl, ?bits,
    modulate_mark_of_place f grammar_firstDiv, modulate_space_of_place f grammar_firstDiv rfl,
    modulate_mark_of_place f grammar_secondDiv, modulate_space_of_place f grammar_secondDiv rfl,
    modulate_mark_of_place f grammar_ftr, fun _ _ => modulate_level_iff⟩
  case bits =>
    intro k j
    rw [← two_mul_bitPlaceIndex k j]
    exact ⟨modulate_bit_mark f k j, modulate_bit_space f k j⟩

end Sys2Proof.Machine
end

section
/-! PROOFS. The class of a frame, and RECV of a train as the class of the frame it demodulates to (20_memory.md R65,
30_encoding.md R82 to R89; log 9). -/

namespace Sys2Proof.Machine

/-- The class a frame's command byte selects (30_encoding.md R82 to R89). -/
theorem instrOfFrame_cases (f : Frame) :
    (f[15] = 0x00 ∧ instrOfFrame f = .fNone f) ∨ (f[15] = 0x01 ∧ instrOfFrame f = .fPower f) ∨
    (f[15] = 0x02 ∧ instrOfFrame f = .fTemp f) ∨ (f[15] = 0x06 ∧ instrOfFrame f = .fMode f) ∨
    (f[15] = 0x07 ∧ instrOfFrame f = .fSwing f) ∨ (f[15] = 0x11 ∧ instrOfFrame f = .fFan f) ∨
    (f[15] = 0x17 ∧ instrOfFrame f = .fAutoset f) ∨ (f[15] ∉ listedCmds ∧ instrOfFrame f = .fOther f) := by
  unfold instrOfFrame
  split_ifs with hnone hpower htemp hmode hswing hfan hautoset
  · exact .inl ⟨hnone, rfl⟩
  · exact .inr (.inl ⟨hpower, rfl⟩)
  · exact .inr (.inr (.inl ⟨htemp, rfl⟩))
  · exact .inr (.inr (.inr (.inl ⟨hmode, rfl⟩)))
  · exact .inr (.inr (.inr (.inr (.inl ⟨hswing, rfl⟩))))
  · exact .inr (.inr (.inr (.inr (.inr (.inl ⟨hfan, rfl⟩)))))
  · exact .inr (.inr (.inr (.inr (.inr (.inr (.inl ⟨hautoset, rfl⟩))))))
  · refine .inr (.inr (.inr (.inr (.inr (.inr (.inr ⟨?_, rfl⟩))))))
    simp only [listedCmds, List.mem_cons, List.not_mem_nil, hnone, hpower, htemp, hmode, hswing, hfan, hautoset,
      or_self, not_false_eq_true]

/-- A frame is well-formed in the class its command byte selects. -/
theorem instrOfFrame_wellFormed (f : Frame) : (instrOfFrame f).wellFormed = true := by
  rcases instrOfFrame_cases f with ⟨hcmd, hi⟩ | ⟨hcmd, hi⟩ | ⟨hcmd, hi⟩ | ⟨hcmd, hi⟩ | ⟨hcmd, hi⟩ | ⟨hcmd, hi⟩ |
      ⟨hcmd, hi⟩ | ⟨hcmd, hi⟩ <;> simp [hi, Instr.wellFormed, hcmd]

/-- Executing the class of a frame is the reception of the frame, whichever class it is (44_decoder.md R231; log 9). -/
theorem exec_instrOfFrame (f : Frame) (s : State) : exec (instrOfFrame f) s = .next (receiveFrame f s) := by
  rcases instrOfFrame_cases f with ⟨_, hi⟩ | ⟨_, hi⟩ | ⟨_, hi⟩ | ⟨_, hi⟩ | ⟨_, hi⟩ | ⟨_, hi⟩ | ⟨_, hi⟩ | ⟨_, hi⟩ <;>
    rw [hi] <;> rfl

/-- RECV of a train that demodulates to a frame is the reception of that frame (44_decoder.md R231). -/
theorem exec_recv_of_demodulate {rx : Train} {f : Frame} {s : State} (hdemod : demodulate s.inst.tolPct rx = .ok f) :
    exec (.recv rx) s = .next (receiveFrame f s) := by
  show Host.Outcome.next (receive (demodulate s.inst.tolPct rx) s) = .next (receive (.ok f) s)
  rw [hdemod]

/-- Settles O48: RECV and the frame's class are both the reception of the frame. -/
theorem recvRunsTheFrameClassOfItsTrain : Obligations.RecvRunsTheFrameClassOfItsTrain := by
  unfold Obligations.RecvRunsTheFrameClassOfItsTrain
  intro rx f s hdemod
  exact ⟨instrOfFrame_wellFormed f, (exec_recv_of_demodulate hdemod).trans (exec_instrOfFrame f s).symm⟩

end Sys2Proof.Machine
end

section
/-! PROOFS. The decoder and the encoder undo each other, in each of the three word formats: host operation requests
(30_encoding.md R97), frames as numbers (20_memory.md R51), pulse symbols (30_encoding.md R90 to R95). -/

namespace Sys2Proof.Machine

/-! ### Operand codes of an XMIT request (30_encoding.md R97) -/

theorem fanOfCode_fanCode (f : Fan) : fanOfCode (fanCode f) = f := by cases f <;> decide

theorem fanCode_fanOfCode : ∀ c : BitVec 2, fanCode (fanOfCode c) = c := by decide

theorem swingOfCode_swingCode (w : Swing) : swingOfCode (swingCode w) = w := by cases w <;> decide

theorem swingCode_swingOfCode : ∀ c : BitVec 1, swingCode (swingOfCode c) = c := by decide

theorem modeOfCode_modeCode (m : Mode) : modeOfCode (modeCode m) = some m := by cases m <;> decide

/-- Mode codes 5 and 6 stand for no mode (43_encoder.md R181). -/
theorem modeOfCode_eq_none : ∀ c : BitVec 3, c = 5 ∨ c = 6 → modeOfCode c = none := by decide

/-- Every other mode code is the code of the mode it is read as (10_state.md R21). -/
theorem exists_modeCode_eq {c : BitVec 3} (hc : ¬ (c = 5 ∨ c = 6)) : ∃ m, modeOfCode c = some m ∧ modeCode m = c := by
  have hread : ∀ c : BitVec 3, ¬ (c = 5 ∨ c = 6) → (modeOfCode c).map modeCode = some c := by decide
  exact Option.map_eq_some_iff.mp (hread c hc)

/-! ### REQ words (30_encoding.md R97) -/

theorem extractLsb'_one_eq_ofBool {n : Nat} (x : BitVec n) (i : Nat) (hi : i < n) :
    x.extractLsb' i 1 = BitVec.ofBool x[i] := by
  ext j hj
  obtain rfl : j = 0 := by omega
  simp [hi]

/-- A REQ word from its fields, the most significant first. -/
def reqOfFields (target : BitVec 8) (sr mc tc w : BitVec 1) (f : BitVec 2) (m : BitVec 3) :
    BitVec (8 + 1 + 1 + 1 + 1 + 2 + 3) :=
  target ++ sr ++ mc ++ tc ++ w ++ f ++ m

theorem reqOfXmit_eq_reqOfFields (m : Mode) (t : Degrees) (f : Fan) (w : Swing) (tc mc sr : Bool) :
    reqOfXmit m t f w tc mc sr =
      reqOfFields t (.ofBool sr) (.ofBool mc) (.ofBool tc) (swingCode w) (fanCode f) (modeCode m) := rfl

/-- Each field of a REQ word reads back as it was written. -/
theorem extractLsb'_reqOfFields (t : BitVec 8) (sr mc tc w : BitVec 1) (f : BitVec 2) (m : BitVec 3) :
    (reqOfFields t sr mc tc w f m).extractLsb' 0 3 = m ∧ (reqOfFields t sr mc tc w f m).extractLsb' 3 2 = f ∧
    (reqOfFields t sr mc tc w f m).extractLsb' 5 1 = w ∧ (reqOfFields t sr mc tc w f m).extractLsb' 6 1 = tc ∧
    (reqOfFields t sr mc tc w f m).extractLsb' 7 1 = mc ∧ (reqOfFields t sr mc tc w f m).extractLsb' 8 1 = sr ∧
    (reqOfFields t sr mc tc w f m).extractLsb' 9 8 = t := by
  -- The fields' widths have to stay visible as summands.
  simp [-Nat.reduceAdd, reqOfFields, BitVec.extractLsb'_append_eq_of_add_le, BitVec.extractLsb'_append_eq_of_le]

/-- A REQ word is put together again from its fields. -/
theorem reqOfFields_extractLsb' (req : BitVec (8 + 1 + 1 + 1 + 1 + 2 + 3)) :
    reqOfFields (req.extractLsb' 9 8) (req.extractLsb' 8 1) (req.extractLsb' 7 1) (req.extractLsb' 6 1)
      (req.extractLsb' 5 1) (req.extractLsb' 3 2) (req.extractLsb' 0 3) = req := by
  simp [-Nat.reduceAdd, reqOfFields, BitVec.extractLsb'_append_extractLsb'_eq_extractLsb']

/-- The request decoder reads back the operands that the encoder wrote. -/
theorem xmitOfReq_reqOfXmit (m : Mode) (t : Degrees) (f : Fan) (w : Swing) (tc mc sr : Bool) :
    xmitOfReq (reqOfXmit m t f w tc mc sr) = some (.xmit m t f w tc mc sr) := by
  obtain ⟨hm, hf, hw, htc, hmc, hsr, ht⟩ :=
    extractLsb'_reqOfFields t (.ofBool sr) (.ofBool mc) (.ofBool tc) (swingCode w) (fanCode f) (modeCode m)
  rw [← reqOfXmit_eq_reqOfFields] at hm hf hw htc hmc hsr ht
  rw [extractLsb'_one_eq_ofBool _ _ (by decide), BitVec.ofBool_eq_iff_eq] at htc hmc hsr
  simp only [xmitOfReq]
  rw [hm, hf, hw, htc, hmc, hsr, ht, modeOfCode_modeCode, fanOfCode_fanCode, swingOfCode_swingCode]
  rfl

/-- An admitted REQ word is the encoder's word for the operands read from it. -/
theorem exists_xmitOfReq {req : BitVec 17} (hadm : ¬ (req.extractLsb' 0 3 = 5 ∨ req.extractLsb' 0 3 = 6)) :
    ∃ m t f w tc mc sr, xmitOfReq req = some (.xmit m t f w tc mc sr) ∧ reqOfXmit m t f w tc mc sr = req := by
  obtain ⟨m, hread, hm⟩ := exists_modeCode_eq hadm
  refine ⟨m, req.extractLsb' 9 8, fanOfCode (req.extractLsb' 3 2), swingOfCode (req.extractLsb' 5 1), req[6], req[7],
    req[8], by rw [xmitOfReq, hread]; rfl, ?_⟩
  simp only [reqOfXmit_eq_reqOfFields, hm, fanCode_fanOfCode, swingCode_swingOfCode, ← extractLsb'_one_eq_ofBool]
  exact reqOfFields_extractLsb' req

/-- A REQ word with mode code 5 or 6 is no request (43_encoder.md R181). -/
theorem xmitOfReq_eq_none {req : BitVec 17} (hno : req.extractLsb' 0 3 = 5 ∨ req.extractLsb' 0 3 = 6) :
    xmitOfReq req = none := by
  rw [xmitOfReq, modeOfCode_eq_none _ hno]
  rfl

/-- OP 1 decodes by its REQ word alone. -/
theorem decode_op_one_of_some {req : BitVec 17} {i : Instr} (hreq : xmitOfReq req = some i) (tol : Fin 101)
    (ys : List Symbol) (rx : List (BitVec 33)) : decode tol ys (.op 1 req rx) = .ok i := by
  simp [decode, hreq]

theorem decode_op_one_of_none {req : BitVec 17} (hreq : xmitOfReq req = none) (tol : Fin 101) (ys : List Symbol)
    (rx : List (BitVec 33)) : decode tol ys (.op 1 req rx) = .error .modeNotAdmitted := by
  simp [decode, hreq]

/-- Settles O3: the mode code decides whether the REQ word is a request, and a request is put together again from its
fields. -/
theorem requestWordsRoundTrip : Obligations.RequestWordsRoundTrip := by
  unfold Obligations.RequestWordsRoundTrip
  intro tol ys req rx
  split_ifs with hno
  · exact decode_op_one_of_none (xmitOfReq_eq_none hno) tol ys rx
  · obtain ⟨m, t, f, w, tc, mc, sr, hreq, hword⟩ := exists_xmitOfReq hno
    exact ⟨m, t, f, w, tc, mc, sr, decode_op_one_of_some hreq tol ys rx, hword⟩

/-! ### Train items (30_encoding.md R97) -/

/-- An item's word keeps its level and its duration. -/
theorem itemOfWord_wordOfItem (it : Item) : itemOfWord (wordOfItem it) = it := by
  obtain ⟨level, duration⟩ := it
  have hdur : (wordOfItem ⟨level, duration⟩).extractLsb' 0 32 = duration := BitVec.extractLsb'_append_eq_right
  have hlevel : (wordOfItem ⟨level, duration⟩)[32] = (level == .mark) := by
    rw [← BitVec.ofBool_eq_iff_eq, ← extractLsb'_one_eq_ofBool]
    exact BitVec.extractLsb'_append_eq_left
  rw [itemOfWord, hdur, hlevel]
  cases level <;> rfl

theorem map_itemOfWord_map_wordOfItem (rx : Train) : (rx.map wordOfItem).map itemOfWord = rx := by
  simp [Function.comp_def, itemOfWord_wordOfItem]

/-! ### Frames as numbers (20_memory.md R51) -/

/-- `W` is the number whose digits to the base 256 are the bytes, byte 0 the lowest. -/
theorem bitsOfFrame_eq_ofDigits (f : Frame) :
    bitsOfFrame f = BitVec.ofNat 168 (Nat.ofDigits 256 (f.toList.map BitVec.toNat)) := by
  rw [bitsOfFrame, Nat.ofDigits_eq_foldr, List.foldr_map]
  rfl

theorem lt_of_mem_map_toNat (bs : List Byte) : ∀ d ∈ bs.map BitVec.toNat, d < 256 := by
  simp only [List.mem_map, forall_exists_index, and_imp, forall_apply_eq_imp_iff₂]
  exact fun b _ => b.isLt

/-- Digit `k` of a number to the base 256 is byte `k`. -/
theorem ofDigits_div_pow_mod (bs : List Byte) (k : Nat) (hk : k < bs.length) :
    Nat.ofDigits 256 (bs.map BitVec.toNat) / 256 ^ k % 256 = bs[k].toNat := by
  rw [Nat.ofDigits_div_pow_eq_ofDigits_drop k (by decide) _ (lt_of_mem_map_toNat bs), ← List.map_drop,
    List.drop_eq_getElem_cons hk, List.map_cons, Nat.ofDigits_cons]
  have hb := bs[k].isLt
  omega

/-- Byte `k` of `W` is byte `k` of the frame. -/
theorem extractLsb'_bitsOfFrame (f : Frame) (k : Fin 21) : (bitsOfFrame f).extractLsb' (8 * k.val) 8 = f[k] := by
  have hlt : Nat.ofDigits 256 (f.toList.map BitVec.toNat) < 2 ^ 168 := by
    simpa using Nat.ofDigits_lt_base_pow_length (by decide) (lt_of_mem_map_toNat f.toList)
  have hdigit := ofDigits_div_pow_mod f.toList k.val (by simp)
  apply BitVec.eq_of_toNat_eq
  rw [BitVec.extractLsb'_toNat, bitsOfFrame_eq_ofDigits, BitVec.toNat_ofNat, Nat.mod_eq_of_lt hlt,
    Nat.shiftRight_eq_div_pow, Nat.pow_mul]
  simpa using hdigit

/-- The frame of a frame's number is the frame. -/
theorem frameOfBits_bitsOfFrame (f : Frame) : frameOfBits (bitsOfFrame f) = f := by
  ext k hk : 1
  simpa [frameOfBits] using extractLsb'_bitsOfFrame f ⟨k, hk⟩

/-- Bit `i` of a number is bit `i % 8` of byte `i / 8` of its frame. -/
theorem getElem_eq_frameOfBits (w : BitVec 168) (i : Nat) (hi : i < 168) :
    w[i] = (frameOfBits w)[i / 8].getLsbD (i % 8) := by
  simp [frameOfBits, Nat.mod_lt, Nat.div_add_mod, BitVec.getLsbD_eq_getElem hi]

/-- A frame drops no bit of its number. -/
theorem frameOfBits_injective : Function.Injective frameOfBits := by
  intro w w' h
  ext i hi
  simp only [getElem_eq_frameOfBits, h]

/-- The number of a number's frame is the number. -/
theorem bitsOfFrame_frameOfBits (w : BitVec 168) : bitsOfFrame (frameOfBits w) = w :=
  frameOfBits_injective (frameOfBits_bitsOfFrame (frameOfBits w))

/-! ### Frame instructions (30_encoding.md R82 to R89) -/

/-- A well-formed frame instruction is the class its frame's command byte selects. -/
theorem instrOfFrame_eq_of_wellFormed {i : Instr} {f : Frame}
    (hi : i ∈ [.fNone f, .fPower f, .fTemp f, .fMode f, .fSwing f, .fFan f, .fAutoset f, .fOther f])
    (hwf : i.wellFormed = true) : instrOfFrame f = i := by
  simp only [List.mem_cons, List.not_mem_nil, or_false] at hi
  rcases hi with rfl | rfl | rfl | rfl | rfl | rfl | rfl | rfl <;>
    simp_all [Instr.wellFormed, instrOfFrame, listedCmds]

/-- Every frame class is encoded as its frame's number. -/
theorem encode_instrOfFrame (f : Frame) : encode (instrOfFrame f) = frameWord f := by
  rcases instrOfFrame_cases f with ⟨_, hi⟩ | ⟨_, hi⟩ | ⟨_, hi⟩ | ⟨_, hi⟩ | ⟨_, hi⟩ | ⟨_, hi⟩ | ⟨_, hi⟩ | ⟨_, hi⟩ <;>
    rw [hi] <;> rfl

theorem decodeNominal_frame (w : BitVec 168) : decodeNominal (.frame w) = .ok (instrOfFrame (frameOfBits w)) := rfl

theorem decodeNominal_frameWord (f : Frame) : decodeNominal (frameWord f) = .ok (instrOfFrame f) := by
  rw [frameWord, decodeNominal_frame, frameOfBits_bitsOfFrame]

/-- The word of a well-formed frame instruction decodes to it. -/
theorem decodeNominal_frameWord_of_wellFormed {i : Instr} {f : Frame}
    (hi : i ∈ [.fNone f, .fPower f, .fTemp f, .fMode f, .fSwing f, .fFan f, .fAutoset f, .fOther f])
    (hwf : i.wellFormed = true) : decodeNominal (frameWord f) = .ok i := by
  rw [decodeNominal_frameWord, instrOfFrame_eq_of_wellFormed hi hwf]

/-- Settles O2: the instruction is the class of the word's frame. -/
theorem everyFrameWordIsAFrameInstruction : Obligations.EveryFrameWordIsAFrameInstruction := by
  unfold Obligations.EveryFrameWordIsAFrameInstruction
  intro w
  refine ⟨instrOfFrame (frameOfBits w), decodeNominal_frame w, instrOfFrame_wellFormed _, ?_⟩
  rw [encode_instrOfFrame, frameWord, bitsOfFrame_frameOfBits]

/-! ### Symbol instructions (30_encoding.md R91 to R95) -/

/-- At tolerance 0 the exact items of a symbol match no symbol before it in the table (30_encoding.md R90). -/
theorem symbolOfItems_symbolItems (y : Symbol) : symbolOfItems 0 allSymbols (symbolItems y) = some y := by
  cases y <;> decide +kernel

theorem decodeNominal_symbolWord (y : Symbol) : decodeNominal (symbolWord y) = .ok (instrOfSymbol y) := by
  simp [decodeNominal, symbolWord, decode, -List.map_map, map_itemOfWord_map_wordOfItem, symbolOfItems_symbolItems]

/-! ### All instructions -/

/-- Settles O1: an operation without operands by computation, the others by the round trip of their format. -/
theorem decodeOfEncodeIsTheInstruction : Obligations.DecodeOfEncodeIsTheInstruction := by
  unfold Obligations.DecodeOfEncodeIsTheInstruction
  intro i hwf
  cases i with
  | idle | tick => rfl
  | xmit m t f w tc mc sr => exact decode_op_one_of_some (xmitOfReq_reqOfXmit m t f w tc mc sr) 0 allSymbols []
  | recv rx => exact congrArg (Except.ok ∘ Instr.recv) (map_itemOfWord_map_wordOfItem rx)
  | fNone f | fPower f | fTemp f | fMode f | fSwing f | fFan f | fAutoset f | fOther f =>
    exact decodeNominal_frameWord_of_wellFormed (by simp) hwf
  | sHdr => exact decodeNominal_symbolWord .hdr
  | sBit1 => exact decodeNominal_symbolWord .bit1
  | sBit0 => exact decodeNominal_symbolWord .bit0
  | sDiv => exact decodeNominal_symbolWord .div
  | sFtr => exact decodeNominal_symbolWord .ftr

/-- A word that the encoder writes for a well-formed instruction decodes to it. -/
theorem decodeNominal_of_encode_eq {i : Instr} {w : PortWord} (hwf : i.wellFormed = true) (hw : encode i = w) :
    decodeNominal w = .ok i := by
  rw [← hw]
  exact decodeOfEncodeIsTheInstruction i hwf

/-- Settles O5: each word is the one the encoder writes for its instruction. -/
theorem writtenOutWordsDecode : Obligations.WrittenOutWordsDecode := by
  unfold Obligations.WrittenOutWordsDecode
  exact ⟨decodeNominal_of_encode_eq rfl rfl, decodeNominal_of_encode_eq rfl (by decide),
    decodeNominal_of_encode_eq rfl (by decide), decodeNominal_of_encode_eq (by decide) (by decide +kernel),
    decodeNominal_of_encode_eq rfl (by decide)⟩

end Sys2Proof.Machine
end

section
/-! PROOFS. The symbols of a frame's train, arriving one after another, rebuild the frame (30_encoding.md R96,
42_timing_codec.md R163, R166). -/

namespace Sys2Proof.Machine

/-! ### Placing a bit (42_timing_codec.md R163) -/

/-- Adding `2^j` to a byte whose bit `j` is clear sets that bit and no other. -/
theorem getElem_add_two_pow {b : Byte} {j : Fin 8} (hclear : b[j] = false) (i : Fin 8) :
    (b + BitVec.ofNat 8 (2 ^ j.val))[i] = (b[i] || decide (i = j)) := by
  have hpow : BitVec.ofNat 8 (2 ^ j.val) = BitVec.twoPow 8 j.val :=
    BitVec.eq_of_toNat_eq (by simp [BitVec.toNat_twoPow])
  have hdisj : b &&& BitVec.twoPow 8 j.val = 0#8 := by
    rw [Fin.getElem_fin, ← BitVec.getLsbD_eq_getElem] at hclear
    rw [BitVec.and_twoPow, hclear]
    rfl
  rw [hpow, BitVec.add_eq_or_of_and_eq_zero _ _ hdisj]
  simp [BitVec.getElem_twoPow, Fin.ext_iff]

/-- The same for the byte of a frame. -/
theorem getElem_set_add_two_pow {g : Frame} {k : Fin 21} {j : Fin 8} (hclear : g[k][j] = false) (k' : Fin 21)
    (j' : Fin 8) :
    (g.set k (g[k] + BitVec.ofNat 8 (2 ^ j.val)))[k'][j'] = (g[k'][j'] || decide (k' = k ∧ j' = j)) := by
  by_cases hk : k' = k
  · subst hk
    simpa using getElem_add_two_pow hclear j'
  · have hval : k.val ≠ k'.val := fun h => hk (Fin.ext h.symm)
    simp [hk, hval]

/-- A frame's symbol, arriving at its place, makes the place's bit the frame's, if it was clear, and leaves the other
bits of the buffer. -/
theorem getElem_depositSymbol {g : Frame} {p : Place} (hclear : ∀ k j, p = .bit k j → g[k][j] = false) (f : Frame)
    (k : Fin 21) (j : Fin 8) :
    (depositSymbol g p (placeSymbol f p))[k][j] = if p = .bit k j then f[k][j] else g[k][j] := by
  cases p with
  | hdr | div | ftr => simp [depositSymbol]
  | bit k' j' =>
    have hclear' : g[k'][j'] = false := hclear k' j' rfl
    cases hbit : f[k'][j'] with
    | false =>
      have hkeep : depositSymbol g (.bit k' j') (placeSymbol f (.bit k' j')) = g := by
        simp only [placeSymbol, hbit]
        rfl
      rw [hkeep]
      split_ifs with hp
      · obtain ⟨rfl, rfl⟩ := Place.bit.inj hp
        rw [hclear', hbit]
      · rfl
    | true =>
      have hset : depositSymbol g (.bit k' j') (placeSymbol f (.bit k' j')) =
          g.set k' (g[k'] + BitVec.ofNat 8 (2 ^ j'.val)) := by
        simp only [placeSymbol, hbit]
        rfl
      rw [hset, getElem_set_add_two_pow hclear']
      split_ifs with hp
      · obtain ⟨rfl, rfl⟩ := Place.bit.inj hp
        rw [hbit]
        simp
      · have hne : ¬ (k = k' ∧ j = j') := fun h => hp (by rw [h.left, h.right])
        simp [hne]

/-! ### A decode that follows a frame -/

/-- Only the divider comes more than once among the places (30_encoding.md R96). -/
def OnlyDividersRepeat (ps : List Place) : Prop := ps.Pairwise fun p q => p = q → p = .div

theorem grammar_onlyDividersRepeat : OnlyDividersRepeat grammar := by
  unfold OnlyDividersRepeat
  decide +kernel

theorem bit_notMem_of_onlyDividersRepeat {k : Fin 21} {j : Fin 8} {rest : List Place}
    (h : OnlyDividersRepeat (.bit k j :: rest)) : Place.bit k j ∉ rest := by
  intro hmem
  obtain ⟨hhead, _⟩ := List.pairwise_cons.mp h
  exact absurd (hhead _ hmem rfl) (by simp)

/-- The decode has gone wrong nowhere, and its buffer holds the frame's bits at the places passed and zeros at the places
ahead. -/
def Demod.Follows (d : Demod) (f : Frame) : Prop :=
  d.failed = false ∧ OnlyDividersRepeat d.todo ∧
    ∀ (k : Fin 21) (j : Fin 8), d.frame[k][j] = if Place.bit k j ∈ d.todo then false else f[k][j]

theorem bit_mem_grammar (k : Fin 21) (j : Fin 8) : Place.bit k j ∈ grammar :=
  List.mem_of_getElem? (grammar_bitPlaceIndex k j)

theorem start_follows (f : Frame) : Demod.start.Follows f := by
  refine ⟨rfl, grammar_onlyDividersRepeat, fun k j => ?_⟩
  rw [if_pos (show Place.bit k j ∈ Demod.start.todo from bit_mem_grammar k j)]
  simp [Demod.start, fclr]

/-- A decode that follows the frame still does so when the frame's symbol arrives at the place expected. -/
theorem accept_follows {d : Demod} {f : Frame} {p : Place} {rest : List Place} (hd : d.Follows f)
    (htodo : d.todo = p :: rest) : (d.accept (placeSymbol f p)).Follows f := by
  obtain ⟨hfailed, honce, hbits⟩ := hd
  rw [htodo] at honce hbits
  have hclear : ∀ k j, p = .bit k j → d.frame[k][j] = false := fun k j hp => by
    rw [hbits, hp, if_pos List.mem_cons_self]
  rw [accept_expected hfailed htodo (placeSymbol_mem f p)]
  refine ⟨rfl, honce.of_cons, fun k j => ?_⟩
  show (depositSymbol d.frame p (placeSymbol f p))[k][j] = if Place.bit k j ∈ rest then false else f[k][j]
  rw [getElem_depositSymbol hclear, hbits]
  by_cases hp : p = .bit k j
  · subst hp
    rw [if_pos rfl, if_neg (bit_notMem_of_onlyDividersRepeat honce)]
  · rw [if_neg hp]
    simp only [List.mem_cons, Ne.symm hp, false_or]

/-- A decode that followed the frame to the end holds the frame. -/
theorem frame_eq_of_follows {d : Demod} {f : Frame} (hd : d.Follows f) (htodo : d.todo = []) : d.frame = f := by
  obtain ⟨_, _, hbits⟩ := hd
  ext k hk j hj
  simpa [htodo] using hbits ⟨k, hk⟩ ⟨j, hj⟩

/-- A decode that is complete has passed 343 items (20_memory.md R58). -/
theorem cur_eq_of_inGrammar {d : Demod} (hd : d.InGrammar) (htodo : d.todo = []) : d.cur = 343 := by
  obtain ⟨_, hcur⟩ := hd
  simpa [htodo, itemsOf] using hcur

/-- The frame's symbols at the places ahead complete a decode that follows the frame. -/
theorem foldl_accept_of_follows {d : Demod} {f : Frame} {ps : List Place} (htodo : d.todo = ps) (hd : d.Follows f)
    (hg : d.InGrammar) : (ps.map (placeSymbol f)).foldl Demod.accept d = ⟨[], 343, f, false⟩ := by
  induction ps generalizing d with
  | nil =>
    have hfailed := hd.left
    have hframe := frame_eq_of_follows hd htodo
    have hcur := cur_eq_of_inGrammar hg htodo
    obtain ⟨todo, cur, frame, failed⟩ := d
    simp_all
  | cons p rest ih =>
    have hnext : (d.accept (placeSymbol f p)).todo = rest := by
      rw [accept_expected hd.left htodo (placeSymbol_mem f p)]
    exact ih hnext (accept_follows hd htodo) (accept_inGrammar hg _)

/-! ### Running symbols -/

theorem exec_instrOfSymbol (y : Symbol) (s : State) : exec (instrOfSymbol y) s = .next (acceptSymbol y s) := by
  cases y <;> rfl

theorem runInstrs_symbol_cons (y : Symbol) (is : List Instr) (s : State) :
    runInstrs (instrOfSymbol y :: is) s = runInstrs is (acceptSymbol y s) := by
  rw [runInstrs, exec_instrOfSymbol]

/-- Running symbols, one at least, has them arrive in turn at the demodulator and ends the pulses. -/
theorem runInstrs_symbols (y : Symbol) (ys : List Symbol) (s : State) :
    runInstrs ((y :: ys).map instrOfSymbol) s = .next { beginOp s with dm := (y :: ys).foldl Demod.accept s.dm } := by
  induction ys generalizing y s with
  | nil => exact runInstrs_symbol_cons y [] s
  | cons z zs ih =>
    rw [List.map_cons, runInstrs_symbol_cons, ih]
    rfl

/-- Settles O26: the train's symbols are those of the places of the grammar, and a decode at its start follows any
frame. -/
theorem symbolsOfATrainRebuildTheFrame : Obligations.SymbolsOfATrainRebuildTheFrame := by
  unfold Obligations.SymbolsOfATrainRebuildTheFrame
  intro f s hstart
  have hdone : (grammar.map (placeSymbol f)).foldl Demod.accept s.dm = ⟨[], 343, f, false⟩ := by
    rw [hstart]
    exact foldl_accept_of_follows rfl (start_follows f) start_inGrammar
  obtain ⟨p, ps, hgrammar⟩ : ∃ p ps, grammar = p :: ps := ⟨_, _, rfl⟩
  rw [hgrammar] at hdone ⊢
  have hrun := runInstrs_symbols (placeSymbol f p) (ps.map (placeSymbol f)) s
  rw [← List.map_cons, hdone, List.map_map] at hrun
  exact hrun

end Sys2Proof.Machine
end

section
/-! PROOFS. What the field accessors read after a write (40_frame_accessors.md R102, R103, R121), and through it the
temperature fields of an XMIT in auto mode (30_encoding.md R78 to R80). -/

namespace Sys2Proof.Machine

/-! ### Reading a field after a write -/

/-- A field's value is the number of its bits. -/
theorem testBit_getField (f : Frame) (x : Field) (i : Nat) :
    (getField f x).testBit i = (decide (i < x.w) && (f[x.byte]).getLsbD (x.lo + i)) := by
  rw [getField, Nat.testBit_mod_two_pow, Nat.testBit_div_two_pow, Nat.add_comm, BitVec.getLsbD]

/-- A field's mask has the field's bits. -/
theorem getLsbD_fieldMask (x : Field) (i : Nat) :
    (fieldMask x).getLsbD i = decide (i < 8 ∧ x.lo ≤ i ∧ i < x.lo + x.w) := by
  rw [fieldMask, BitVec.getLsbD_ofNat, Nat.testBit_mul_two_pow, Nat.testBit_two_pow_sub_one]
  grind

/-- A write puts the value's bits at the field and leaves the byte's other bits. -/
theorem getLsbD_setField (f : Frame) (x : Field) (v i : Nat) :
    ((setField f x v)[x.byte]).getLsbD i =
      if x.lo ≤ i ∧ i < x.lo + x.w then decide (i < 8) && v.testBit (i - x.lo) else (f[x.byte]).getLsbD i := by
  rw [setField_getElem_self, BitVec.getLsbD_or, BitVec.getLsbD_and, BitVec.getLsbD_and, BitVec.getLsbD_not,
    getLsbD_fieldMask, BitVec.getLsbD_ofNat, Nat.testBit_mul_two_pow, Nat.testBit_mod_two_pow]
  split_ifs with hin
  · simp [hin, show i - x.lo < x.w by omega, Bool.and_comm]
  · by_cases hi : i < 8
    · simp [hi, hin]
    · rw [BitVec.getLsbD_of_ge f[x.byte] i (Nat.le_of_not_lt hi)]
      simp [hi]

/-- A field that lies within its byte reads back what was written, cut to its width (40_frame_accessors.md R121). -/
theorem getField_setField_self (f : Frame) {x : Field} (hfit : x.lo + x.w ≤ 8) (v : Nat) :
    getField (setField f x v) x = v % 2 ^ x.w := by
  apply Nat.eq_of_testBit_eq
  intro i
  rw [testBit_getField, Nat.testBit_mod_two_pow]
  by_cases hi : i < x.w
  · rw [getLsbD_setField, if_pos (by omega), Nat.add_sub_cancel_left,
      decide_eq_true (by omega : x.lo + i < 8), Bool.true_and]
  · simp [hi]

/-- Two fields share no bit. -/
abbrev Field.Apart (x y : Field) : Prop := y.byte ≠ x.byte ∨ y.lo + y.w ≤ x.lo ∨ x.lo + x.w ≤ y.lo

/-- A write to a field leaves the fields that share no bit with it (40_frame_accessors.md R121). -/
theorem getField_setField_of_apart (f : Frame) {x y : Field} (hxy : x.Apart y) (v : Nat) :
    getField (setField f x v) y = getField f y := by
  by_cases hbyte : y.byte = x.byte
  · have hbits : y.lo + y.w ≤ x.lo ∨ x.lo + x.w ≤ y.lo := hxy.resolve_left (not_not_intro hbyte)
    apply Nat.eq_of_testBit_eq
    intro i
    simp only [testBit_getField, hbyte, getLsbD_setField]
    by_cases hi : i < y.w
    · rw [if_neg (by omega)]
    · simp [hi]
  · exact getField_setField_other_byte f x y v hbyte

/-! ### The encoder's steps, field by field (43_encoder.md R184 to R192) -/

/-- The fields written by the steps after the temperature: 6 to 10. -/
def lateFields : List Field :=
  [fieldCmd, fieldFan, fieldSwing1, fieldSwing2, fieldAuto6, fieldSum1, fieldSum2]

section LateSteps

variable {y : Field} (hy : ∀ x ∈ lateFields, x.Apart y) (f : Frame)
include hy

theorem getField_setField_of_late {x : Field} (hx : x ∈ lateFields) (v : Nat) :
    getField (setField f x v) y = getField f y :=
  getField_setField_of_apart f (hy x hx) v

theorem getField_encodeTempCmd (tc toggled : Bool) : getField (encodeTempCmd tc toggled f) y = getField f y := by
  unfold encodeTempCmd
  split
  · exact getField_setField_of_late hy f (by simp [lateFields]) _
  · rfl

theorem getField_encodeFan (fan : Fan) : getField (encodeFan fan f) y = getField f y := by
  have hfan : getField (setField f fieldFan (wireFan fan)) y = getField f y :=
    getField_setField_of_late hy f (by simp [lateFields]) _
  unfold encodeFan
  split
  · exact hfan
  · rw [getField_setField_of_late hy _ (by simp [lateFields]), hfan]

theorem getField_encodeSwing (sr : Bool) : getField (encodeSwing sr f) y = getField f y := by
  unfold encodeSwing
  split
  · rw [getField_setField_of_late hy _ (by simp [lateFields]), getField_setField_of_late hy _ (by simp [lateFields]),
      getField_setField_of_late hy _ (by simp [lateFields])]
  · rfl

theorem getField_encodeAuto6 : getField (encodeAuto6 f) y = getField f y := by
  unfold encodeAuto6
  split
  · rfl
  · exact getField_setField_of_late hy f (by simp [lateFields]) _

theorem getField_csumGen : getField (csumGen f) y = getField f y := by
  unfold csumGen
  rw [getField_setField_of_late hy _ (by simp [lateFields]), getField_setField_of_late hy _ (by simp [lateFields])]

end LateSteps

/-- The frame under construction after step 5, temperature (43_encoder.md R187). -/
def frameAfterTemp (inst : Instance) (m : Model) (pwr : Bool) (mode : Mode) (target : Degrees) : Frame :=
  encodeTemp m mode target.toInt (encodeAuto m mode target.toInt
    (encodeMode mode (encodePower (toggles mode pwr) (encodeInit inst m))))

/-- The steps after the temperature leave the fields that share no bit with theirs. -/
theorem getField_buildFrame {y : Field} (hy : ∀ x ∈ lateFields, x.Apart y) (inst : Instance) (m : Model) (pwr : Bool)
    (mode : Mode) (target : Degrees) (fan : Fan) (tc sr : Bool) :
    getField (buildFrame inst m pwr mode target fan tc sr) y =
      getField (frameAfterTemp inst m pwr mode target) y := by
  unfold buildFrame
  rw [getField_csumGen hy, getField_encodeAuto6 hy, getField_encodeSwing hy, getField_encodeFan hy,
    getField_encodeTempCmd hy]
  rfl

/-! ### The temperature fields of a frame in auto mode (30_encoding.md R78) -/

/-- Step 4 of the encoder in auto mode (43_encoder.md R186), on the fields the temperature is read from. -/
theorem getField_encodeAuto (m : Model) (t : Int) (f : Frame) :
    getField (encodeAuto m .auto t f) fieldTemp = (autoRef - tmin m).toNat % 2 ^ 4 ∧
    getField (encodeAuto m .auto t f) fieldAto = (autoEnc (autoOffset m t)).1.toNat % 2 ^ 3 ∧
    getField (encodeAuto m .auto t f) fieldPad1 = (autoEnc (autoOffset m t)).2.toNat % 2 ^ 8 ∧
    getField (encodeAuto m .auto t f) fieldMode = getField f fieldMode := by
  simp only [encodeAuto, if_true]
  refine ⟨?_, ?_, ?_, ?_⟩
  · rw [getField_setField_of_apart _ (by decide), getField_setField_of_apart _ (by decide),
      getField_setField_self _ (by decide)]
    rfl
  · rw [getField_setField_of_apart _ (by decide), getField_setField_self _ (by decide)]
    rfl
  · rw [getField_setField_self _ (by decide)]
    rfl
  · repeat rw [getField_setField_of_apart _ (by decide)]

/-- Step 3 of the encoder writes AUTO's wire code (43_encoder.md R185, 30_encoding.md R74). -/
theorem getField_encodeMode_auto (f : Frame) : getField (encodeMode .auto f) fieldMode = 1 :=
  getField_setField_self f (by decide) 1

/-- A frame built in auto mode carries the mode, the reference temperature and AutoEnc of the offset, and each value fits
its field. -/
theorem buildFrame_auto (inst : Instance) (m : Model) (pwr : Bool) (g : Degrees) (fan : Fan) (tc sr : Bool) :
    getField (buildFrame inst m pwr .auto g fan tc sr) fieldMode = 1 ∧
    (getField (buildFrame inst m pwr .auto g fan tc sr) fieldTemp : Int) = 25 - tmin m ∧
    (getField (buildFrame inst m pwr .auto g fan tc sr) fieldAto : Int) = (autoEnc (autoOffset m g.toInt)).1 ∧
    (getField (buildFrame inst m pwr .auto g fan tc sr) fieldPad1 : Int) = (autoEnc (autoOffset m g.toInt)).2 := by
  obtain ⟨htemp, hato, hpad1, hmode⟩ := getField_encodeAuto m g.toInt
    (encodeMode .auto (encodePower (toggles .auto pwr) (encodeInit inst m)))
  obtain ⟨hato0, hato6, hpad0, hpad24⟩ := autoEnc_bounds _ (autoOffset_bounds m g.toInt)
  rw [getField_encodeMode_auto] at hmode
  refine ⟨?_, ?_, ?_, ?_⟩ <;> rw [getField_buildFrame (by decide)]
  · exact hmode
  · rw [show getField (frameAfterTemp inst m pwr .auto g) fieldTemp = _ from htemp]
    cases m <;> rfl
  · rw [show getField (frameAfterTemp inst m pwr .auto g) fieldAto = _ from hato]
    omega
  · rw [show getField (frameAfterTemp inst m pwr .auto g) fieldPad1 = _ from hpad1]
    omega

/-- AutoEnc, one component at a time (30_encoding.md R78). -/
theorem autoEnc_fst (off : Int) : (autoEnc off).1 =
    if off > 0 then clamp (off - 1) 0 2 else if off < 0 then clamp ((-off - 2) + 4) 5 6 else 0 := by
  unfold autoEnc
  split_ifs <;> rfl

theorem autoEnc_snd (off : Int) : (autoEnc off).2 =
    if off ≥ 3 then ((off - 3) + 1) * 4 else if off ≤ -3 then ((-off - 3) + 1) * 4 else 0 := by
  unfold autoEnc
  split_ifs <;> dsimp only <;> omega

/-- XMIT answers a state that shows the frame built from its operands, PWR and MODEL (43_encoder.md R193). -/
theorem exec_xmit (m : Mode) (g : Degrees) (f : Fan) (w : Swing) (tc mc sr : Bool) (s : State) :
    ∃ t, exec (.xmit m g f w tc mc sr) s = .next t ∧
      t.frameOut = buildFrame s.inst s.pins.model s.pwr m g f tc sr := ⟨_, rfl, rfl⟩

/-- Settles O31: the three fields of the frame built, with AutoEnc written out. -/
theorem xmitSpreadsTheAutoTargetOverTwoFields : Obligations.XmitSpreadsTheAutoTargetOverTwoFields := by
  unfold Obligations.XmitSpreadsTheAutoTargetOverTwoFields
  intro g f w tc mc sr s
  obtain ⟨t, hexec, hframe⟩ := exec_xmit .auto g f w tc mc sr s
  obtain ⟨_, htemp, hato, hpad1⟩ := buildFrame_auto s.inst s.pins.model s.pwr g f tc sr
  rw [autoEnc_fst] at hato
  rw [autoEnc_snd] at hpad1
  rw [← hframe] at htemp hato hpad1
  exact ⟨t, hexec, htemp, hato, hpad1⟩

/-! ### The round trip of the target in auto mode (30_encoding.md R80) -/

/-- In auto mode the base temperature is the reference, and the target read is AutoDec of the offset's code
(30_encoding.md R79). -/
theorem tempDec_buildFrame_auto (inst : Instance) (m : Model) (pwr : Bool) (g : Degrees) (fan : Fan) (tc sr : Bool) :
    tempDec m (buildFrame inst m pwr .auto g fan tc sr) =
      autoDec 25 (autoEnc (autoOffset m g.toInt)).1.toNat (autoEnc (autoOffset m g.toInt)).2.toNat := by
  obtain ⟨hmode, htemp, hato, hpad1⟩ := buildFrame_auto inst m pwr g fan tc sr
  rw [← hato, ← hpad1, Int.toNat_natCast, Int.toNat_natCast, tempDec, if_pos hmode, htemp, Int.sub_add_cancel]

/-- AutoDec reads back `25 + off` at the offsets 1 and 2 only; at the others it reads one degree more. -/
theorem autoDec_autoEnc_eq_iff {off : Int} (hoff : -8 ≤ off ∧ off ≤ 7) :
    autoDec 25 (autoEnc off).1.toNat (autoEnc off).2.toNat = 25 + off ↔ off = 1 ∨ off = 2 := by
  obtain ⟨hlo, hhi⟩ := hoff
  interval_cases off <;> decide

/-- Settles O54: the clamped target is 25 plus the offset. -/
theorem onlyTwoAutoTargetsSurviveTheRoundTrip : Obligations.OnlyTwoAutoTargetsSurviveTheRoundTrip := by
  unfold Obligations.OnlyTwoAutoTargetsSurviveTheRoundTrip
  intro m g f w tc mc sr s t hmodel hexec
  obtain ⟨t', hexec', hframe⟩ := exec_xmit .auto g f w tc mc sr s
  obtain rfl : t' = t := Host.Outcome.next.inj (hexec'.symm.trans hexec)
  have hclamp : clamp g.toInt (tmin m + 1) (tmax m) = 25 + autoOffset m g.toInt := by
    simp only [autoOffset, autoRef]
    omega
  have hiff := autoDec_autoEnc_eq_iff (autoOffset_bounds m g.toInt)
  rw [hframe, hmodel, tempDec_buildFrame_auto, hclamp, hiff]
  omega

end Sys2Proof.Machine
end

section
/-! PROOFS. What the reception of an accepted frame makes of the registers, in each of the eight frame classes, and which
instructions change DS.SWING (30_encoding.md R82 to R89, 44_decoder.md R225 to R230). -/

namespace Sys2Proof.Machine

/-! ### The fields of a received frame -/

/-- The decoded temperature lies in -49..99, so that DS.TARGET holds it uncut (30_encoding.md R79). -/
theorem tempDec_bounds (m : Model) (f : Frame) : -49 ≤ tempDec m f ∧ tempDec m f ≤ 99 := by
  have htemp : getField f fieldTemp < 16 := getField_lt f fieldTemp
  have hato : getField f fieldAto < 8 := getField_lt f fieldAto
  have hpad1 : getField f fieldPad1 < 256 := getField_lt f fieldPad1
  have htmin : 16 ≤ tmin m ∧ tmin m ≤ 18 := by cases m <;> decide
  simp only [tempDec, autoDec]
  split_ifs <;> omega

theorem toInt_ofInt_tempDec (m : Model) (f : Frame) : (BitVec.ofInt 8 (tempDec m f)).toInt = tempDec m f := by
  obtain ⟨hlo, hhi⟩ := tempDec_bounds m f
  exact BitVec.toInt_ofInt_eq_self (by decide) (by omega) (by omega)

/-- The mode code's table, codes 5 to 7 leaving what was there (30_encoding.md R74). -/
theorem modeOfWire_getD (c : Nat) (m : Mode) :
    (modeOfWire c).getD m =
      if c = 0 then .heat else if c = 1 then .auto else if c = 2 then .cool else if c = 3 then .dry
      else if c = 4 then .fanOnly else m := by
  unfold modeOfWire
  split <;> simp_all

/-- The fan code's table (30_encoding.md R75). -/
theorem fanOfWire_getField (f : Frame) :
    fanOfWire (getField f fieldFan) =
      if getField f fieldFan = 0 then .auto else if getField f fieldFan = 1 then .high
      else if getField f fieldFan = 2 then .medium else .low := by
  have hlt : getField f fieldFan < 4 := getField_lt f fieldFan
  generalize getField f fieldFan = c at hlt
  interval_cases c <;> rfl

theorem swingRequested_iff (f : Frame) :
    swingRequested f = true ↔
      getField f fieldSwing1 = 1 ∧ getField f fieldSwing2 = 1 ∧ getField f fieldCmd = 0x07 := by
  simp [swingRequested, and_assoc]

/-- The Cmd field is byte 15 (40_frame_accessors.md R117). -/
theorem getField_fieldCmd (f : Frame) : getField f fieldCmd = (f[15]).toNat := by
  have hlt := (f[15]).isLt
  show (f[15]).toNat / 2 ^ 0 % 2 ^ 8 = _
  omega

/-- Only a frame with the swing command asks for a swing toggle (30_encoding.md R86, R89). -/
theorem cmd_of_swingRequested {f : Frame} (h : swingRequested f = true) : f[15] = 0x07 := by
  obtain ⟨_, _, hcmd⟩ := (swingRequested_iff f).mp h
  rw [getField_fieldCmd] at hcmd
  exact BitVec.eq_of_toNat_eq hcmd

/-! ### The reception of an accepted frame -/

/-- With the guard clear an accepted frame is interpreted (44_decoder.md R231). -/
theorem receive_of_accepted {f : Frame} {s : State} (hguard : s.guard = false)
    (hacc : frameAccepted s.inst f = true) : receive (.ok f) s = interpretFrame f (receiveStart s) := by
  rcases receive_cases (.ok f) s with ⟨hset, _⟩ | ⟨_, _, hr, _⟩ | ⟨_, f', hr, hbad, _⟩ | ⟨_, f', hr, _, hhdr, _⟩ |
      ⟨_, f', hr, _, he⟩
  · exact absurd (hset.symm.trans hguard) (by decide)
  · exact absurd hr (by simp)
  · obtain rfl := DemodResult.ok.inj hr
    simp_all [frameAccepted]
  · obtain rfl := DemodResult.ok.inj hr
    simp_all [frameAccepted]
  · obtain rfl := DemodResult.ok.inj hr
    exact he

/-- PWR and DS.MODE after the interpretation: the power toggle first, then the mode code if PWR is now 1 (44_decoder.md
R225, R226, R234). -/
theorem interpretFrame_pwr_mode (f : Frame) (s : State) :
    (interpretFrame f s).pwr = (if getField f fieldPower = 1 then !s.pwr else s.pwr) ∧
    (interpretFrame f s).mode =
      if (interpretFrame f s).pwr then (modeOfWire (getField f fieldMode)).getD s.mode
      else if getField f fieldPower = 1 then .off else s.mode := by
  by_cases hpower : getField f fieldPower = 1 <;> cases hpwr : s.pwr <;> simp [interpretFrame, hpower, hpwr]

/-- DS.TARGET, DS.FAN and DS.SWING after the interpretation, whatever PWR is (44_decoder.md R227 to R229). -/
theorem interpretFrame_target_fan_swing (f : Frame) (s : State) :
    (interpretFrame f s).target.toInt = tempDec s.pins.model f ∧
    (interpretFrame f s).fan = fanOfWire (getField f fieldFan) ∧
    (interpretFrame f s).swing = if swingRequested f then toggleSwing s.swing else s.swing := by
  simp [-BitVec.toInt_ofInt, interpretFrame, toInt_ofInt_tempDec]

/-- A successful end: OK, CAUSE 0 and the PUBLISH pulse; the guard, FRAME_OUT, the inputs and the sink are left
(44_decoder.md R230). -/
theorem interpretFrame_end (f : Frame) (s : State) :
    (interpretFrame f s).ok = true ∧ (interpretFrame f s).cause = 0 ∧ (interpretFrame f s).publish = true ∧
    (interpretFrame f s).sink = s.sink ∧ SameGuard s (interpretFrame f s) ∧
    (interpretFrame f s).frameOut = s.frameOut ∧ SameInputs s (interpretFrame f s) := by
  simp [interpretFrame, causeSuccess, SameGuard, SameInputs]

/-! ### The eight frame classes -/

/-- Executing a frame under any of the eight classes is its reception (44_decoder.md R231; log 9). -/
theorem exec_frameClass {mk : Frame → Instr}
    (hmk : mk ∈ [Instr.fNone, Instr.fPower, Instr.fTemp, Instr.fMode, Instr.fSwing, Instr.fFan, Instr.fAutoset,
      Instr.fOther]) (f : Frame) (s : State) : exec (mk f) s = .next (receive (.ok f) s) := by
  simp only [List.mem_cons, List.not_mem_nil, or_false] at hmk
  rcases hmk with rfl | rfl | rfl | rfl | rfl | rfl | rfl | rfl <;> rfl

/-- Settles O46: whichever the class, the accepted frame is interpreted from the state in which the pulses are over. -/
theorem everyFrameClassIsInterpreted : Obligations.EveryFrameClassIsInterpreted := by
  unfold Obligations.EveryFrameClassIsInterpreted
  intro mk hmk f s hguard hacc
  have hexec : exec (mk f) s = .next (interpretFrame f (receiveStart s)) := by
    rw [exec_frameClass hmk, receive_of_accepted hguard hacc]
  obtain ⟨hok, hcause, hpublish, hsink, hsame, hframe, hinputs⟩ := interpretFrame_end f (receiveStart s)
  obtain ⟨hpwr, hmode⟩ := interpretFrame_pwr_mode f (receiveStart s)
  obtain ⟨htarget, hfan, hswing⟩ := interpretFrame_target_fan_swing f (receiveStart s)
  rw [modeOfWire_getD] at hmode
  rw [fanOfWire_getField] at hfan
  simp only [swingRequested_iff] at hswing
  exact ⟨_, hexec, hok, hcause, hpublish, hpwr, hmode, htarget, hfan, hswing, hsink, hsame, hframe, hinputs⟩

/-! ### Who changes DS.SWING -/

/-- A receive attempt changes DS.SWING only on a frame with the swing command (44_decoder.md R229). -/
theorem cmd_of_receive_swing_ne {r : DemodResult} {s : State} (hne : (receive r s).swing ≠ s.swing) :
    ∃ f, r = .ok f ∧ f[15] = 0x07 := by
  rcases receive_cases r s with ⟨_, he⟩ | ⟨_, _, _, he⟩ | ⟨_, _, _, _, he⟩ | ⟨_, _, _, _, _, he⟩ |
      ⟨_, f, hr, _, he⟩ <;> rw [he] at hne
  · exact absurd rfl hne
  · exact absurd rfl hne
  · exact absurd rfl hne
  · exact absurd rfl hne
  · obtain ⟨_, _, hswing⟩ := interpretFrame_target_fan_swing f (receiveStart s)
    refine ⟨f, hr, cmd_of_swingRequested ?_⟩
    by_contra hno
    rw [if_neg hno] at hswing
    exact hne hswing

/-- Settles O50: TICK, IDLE and the symbols leave DS.SWING, and a well-formed frame with the swing command is an
F.SWING. -/
theorem onlySwingFramesToggleSwing : Obligations.OnlySwingFramesToggleSwing := by
  unfold Obligations.OnlySwingFramesToggleSwing
  intro i s t hwf hexec hne
  rcases exec_cases i s with ⟨_, he⟩ | ⟨_, he⟩ | ⟨m, g, f, w, tc, mc, sr, hi, he⟩ | ⟨rx, hi, he⟩ | ⟨f, hi, he⟩ |
      ⟨y, _, he⟩ <;> obtain rfl := Host.Outcome.next.inj (he.symm.trans hexec)
  · exact absurd rfl hne
  · exact absurd (tickGuard_swing (beginOp s)) hne
  · exact .inr (.inr ⟨m, g, f, w, tc, mc, sr, hi⟩)
  · obtain ⟨f, hdemod, hcmd⟩ := cmd_of_receive_swing_ne hne
    exact .inr (.inl ⟨rx, f, hi, hdemod, hcmd⟩)
  · obtain ⟨f', hr, hcmd⟩ := cmd_of_receive_swing_ne hne
    obtain rfl := DemodResult.ok.inj hr
    refine .inl ⟨f, ?_⟩
    rw [← instrOfFrame_eq_of_wellFormed hi hwf]
    simp [instrOfFrame, hcmd]
  · exact absurd rfl hne

end Sys2Proof.Machine
end

section
/-! PROOFS. The laws of the seventeen named fields (40_frame_accessors.md R121): a write is described bit by bit over the
whole frame, and two frames with the same bits are equal. -/

namespace Sys2Proof.Machine

/-! ### A field write, bit by bit -/

/-- Bit `i` of byte `k` belongs to the field. -/
abbrev Field.Covers (x : Field) (k : Fin 21) (i : Nat) : Prop := k = x.byte ∧ x.lo ≤ i ∧ i < x.lo + x.w

theorem frame_eq_of_getLsbD {f g : Frame} (h : ∀ (k : Fin 21) (i : Nat), (f[k]).getLsbD i = (g[k]).getLsbD i) : f = g :=
  Vector.ext fun k hk => BitVec.eq_of_getLsbD_eq fun i _ => h ⟨k, hk⟩ i

/-- A write puts the value's bits at the bits the field covers and leaves every other bit of the frame. -/
theorem getLsbD_setField_getElem (f : Frame) (x : Field) (v : Nat) (k : Fin 21) (i : Nat) :
    ((setField f x v)[k]).getLsbD i =
      if x.Covers k i then decide (i < 8) && v.testBit (i - x.lo) else (f[k]).getLsbD i := by
  by_cases hk : k = x.byte
  · subst hk
    simp only [getLsbD_setField, Field.Covers, true_and]
  · rw [setField_getElem_ne f x v k hk, if_neg fun hcov => hk hcov.left]

/-- Fields that share no bit cover no common bit. -/
theorem Field.Apart.not_covers {x y : Field} (hxy : x.Apart y) {k : Fin 21} {i : Nat} (hx : x.Covers k i) :
    ¬ y.Covers k i := by
  rintro ⟨hbyte, hlo, hhi⟩
  obtain ⟨rfl, hlo', hhi'⟩ := hx
  rcases hxy with hne | hbelow | habove
  · exact hne hbyte.symm
  · omega
  · omega

/-! ### The laws that compare whole frames -/

theorem setField_getField_self (f : Frame) (x : Field) : setField f x (getField f x) = f := by
  apply frame_eq_of_getLsbD
  intro k i
  rw [getLsbD_setField_getElem]
  split_ifs with hcov
  · obtain ⟨rfl, hlo, hhi⟩ := hcov
    rw [testBit_getField, Nat.add_sub_cancel' hlo, decide_eq_true (by omega : i - x.lo < x.w), Bool.true_and]
    exact Bool.and_eq_right_iff_imp.mpr fun hbit => decide_eq_true (BitVec.lt_of_getLsbD hbit)
  · rfl

theorem setField_comm_of_apart (f : Frame) {x y : Field} (hxy : x.Apart y) (u v : Nat) :
    setField (setField f x u) y v = setField (setField f y v) x u := by
  apply frame_eq_of_getLsbD
  intro k i
  simp only [getLsbD_setField_getElem]
  by_cases hx : x.Covers k i
  · simp only [if_pos hx, if_neg (hxy.not_covers hx)]
  · simp only [if_neg hx]

theorem setField_setField_self (f : Frame) (x : Field) (u v : Nat) : setField (setField f x u) x v = setField f x v := by
  apply frame_eq_of_getLsbD
  intro k i
  simp only [getLsbD_setField_getElem]
  split_ifs <;> rfl

/-! ### The named fields (30_encoding.md R71) -/

theorem fits_of_mem_namedFields : ∀ x ∈ namedFields, x.lo + x.w ≤ 8 := by decide

theorem apart_of_mem_namedFields : ∀ x ∈ namedFields, ∀ y ∈ namedFields, x ≠ y → x.Apart y := by decide

/-- Settles O14: each named field lies within its byte and no two of them share a bit. -/
theorem fieldAccessorsObeyTheirLaws : Obligations.FieldAccessorsObeyTheirLaws := by
  unfold Obligations.FieldAccessorsObeyTheirLaws
  refine ⟨?readAfterWrite, ?writeAfterRead, ?otherFields, ?otherBytes, ?commute, ?secondWins⟩
  case readAfterWrite => exact fun x hx f v => getField_setField_self f (fits_of_mem_namedFields x hx) v
  case writeAfterRead => exact fun x _ f => setField_getField_self f x
  case otherFields =>
    exact fun x hx y hy hne f v => getField_setField_of_apart f (apart_of_mem_namedFields x hx y hy hne) v
  case otherBytes => exact fun x _ f v k hk => setField_getElem_ne f x v k hk
  case commute =>
    exact fun x hx y hy hne f u v => setField_comm_of_apart f (apart_of_mem_namedFields x hx y hy hne) u v
  case secondWins => exact fun x _ f u v => setField_setField_self f x u v

end Sys2Proof.Machine
end

section
/-! PROOFS. The two XOR checksums (41_checksum.md R140 to R144): the exclusive-or of a range looks at the bytes of the range
alone and changes when a single one of them does; a check passes when its range, the stored sum included, cancels to 0. -/

namespace Sys2Proof.Machine

/-! ### The exclusive-or of a range of bytes (46_arithmetic_sequencing.md R273) -/

theorem xorBytes_zero (f : Frame) (a : Nat) : xorBytes f a 0 = 0 := by simp [xorBytes]

theorem xorBytes_succ (f : Frame) {a n : Nat} (h : a + n < 21) :
    xorBytes f a (n + 1) = xorBytes f a n ^^^ f[a + n] := by
  have hlen : n < (f.toList.drop a).length := by simp; omega
  rw [xorBytes, List.take_succ_eq_append_getElem hlen, List.foldl_append]
  simp [xorBytes]

/-- A byte outside the range does not enter its exclusive-or. -/
theorem xorBytes_set_of_outside (f : Frame) {k : Nat} (hk : k < 21) (b : Byte) {a n : Nat} (hn : a + n ≤ 21)
    (hout : k < a ∨ a + n ≤ k) : xorBytes (f.set k b) a n = xorBytes f a n := by
  induction n with
  | zero => rw [xorBytes_zero, xorBytes_zero]
  | succ n ih =>
    rw [xorBytes_succ _ hn, xorBytes_succ f hn, ih (by omega) (by omega), Vector.getElem_set_ne _ _ (by omega)]

/-- Another value for one byte of the range changes its exclusive-or (41_checksum.md R144). -/
theorem xorBytes_set_ne {f : Frame} {k : Fin 21} {b : Byte} (hne : f[k] ≠ b) {a n : Nat} (hn : a + n ≤ 21)
    (hlo : a ≤ k.val) (hhi : k.val < a + n) : xorBytes (f.set k b) a n ≠ xorBytes f a n := by
  induction n with
  | zero => omega
  | succ n ih =>
    rw [xorBytes_succ _ hn, xorBytes_succ f hn]
    by_cases hk : k.val = a + n
    · obtain rfl : k = ⟨a + n, hn⟩ := Fin.ext hk
      rw [xorBytes_set_of_outside f _ b (by omega) (.inr le_rfl), Vector.getElem_set_self]
      exact fun h => hne ((BitVec.xor_right_inj _).mp h).symm
    · rw [Vector.getElem_set_ne _ _ hk]
      exact fun h => ih (by omega) (by omega) ((BitVec.xor_left_inj _).mp h)

/-! ### The checks (41_checksum.md R143) -/

/-- The first check passes when bytes 2 to 13, the stored sum among them, cancel. -/
theorem bad1_eq_false_iff (f : Frame) : bad1 f = false ↔ xorBytes f 2 12 = 0 :=
  calc bad1 f = false
    _ ↔ f[13] = sum1 f := bne_eq_false_iff_eq
    _ ↔ sum1 f ^^^ f[13] = 0 := eq_comm.trans BitVec.xor_eq_zero_iff.symm
    _ ↔ xorBytes f 2 12 = 0 := by rw [xorBytes_succ f (by decide), sum1]

/-- The second check passes when bytes 14 to 20, the stored sum among them, cancel. -/
theorem bad2_eq_false_iff (f : Frame) : bad2 f = false ↔ xorBytes f 14 7 = 0 :=
  calc bad2 f = false
    _ ↔ f[20] = sum2 f := bne_eq_false_iff_eq
    _ ↔ sum2 f ^^^ f[20] = 0 := eq_comm.trans BitVec.xor_eq_zero_iff.symm
    _ ↔ xorBytes f 14 7 = 0 := by rw [xorBytes_succ f (by decide), sum2]

theorem csumChk_eq_iff (f : Frame) (b1 b2 : Bool) : csumChk f = (b1, b2) ↔ bad1 f = b1 ∧ bad2 f = b2 :=
  Prod.mk_inj

/-- Settles O16: the changed byte lies in the range of one check, whose bytes no longer cancel, and outside the other's. -/
theorem singleByteMutationsAreDetected : Obligations.SingleByteMutationsAreDetected := by
  unfold Obligations.SingleByteMutationsAreDetected
  intro f k b hvalid hne
  obtain ⟨hbad1, hbad2⟩ := (csumChk_eq_iff f _ _).mp hvalid
  rw [bad1_eq_false_iff] at hbad1
  rw [bad2_eq_false_iff] at hbad2
  constructor
  · intro hlo hhi
    rw [csumChk_eq_iff, bad2_eq_false_iff, ← Bool.not_eq_false, bad1_eq_false_iff]
    exact ⟨hbad1 ▸ xorBytes_set_ne hne (by decide) hlo (by omega),
      hbad2 ▸ xorBytes_set_of_outside f k.isLt b (by decide) (.inl (by omega))⟩
  · intro hlo
    rw [csumChk_eq_iff, bad1_eq_false_iff, ← Bool.not_eq_false, bad2_eq_false_iff]
    exact ⟨hbad1 ▸ xorBytes_set_of_outside f k.isLt b (by decide) (.inr hlo),
      hbad2 ▸ xorBytes_set_ne hne (by decide) hlo k.isLt⟩

/-! ### The generated sums (41_checksum.md R142) -/

/-- A write to a field of eight bits replaces its byte. -/
theorem setField_eq_set (f : Frame) {x : Field} (hlo : x.lo = 0) (hw : x.w = 8) (b : Byte) :
    setField f x b.toNat = f.set x.byte b := by
  have hmask : fieldMask x = BitVec.allOnes 8 := by rw [fieldMask, hlo, hw]; rfl
  have hvalue : BitVec.ofNat 8 (b.toNat % 2 ^ x.w * 2 ^ x.lo) = b := by
    rw [hlo, hw, pow_zero, mul_one, Nat.mod_eq_of_lt b.isLt, BitVec.ofNat_toNat, BitVec.setWidth_eq]
  rw [setField, hmask, hvalue, BitVec.not_allOnes, BitVec.and_zero, BitVec.zero_or, BitVec.and_allOnes]

/-- CSUM.GEN replaces bytes 13 and 20 by the sums. -/
theorem csumGen_eq_set (f : Frame) : csumGen f = (f.set 13 (sum1 f)).set 20 (sum2 f) := by
  rw [csumGen, setField_eq_set _ rfl rfl, setField_eq_set _ rfl rfl]
  rfl

theorem csumGen_getElem_of_ne (f : Frame) {k : Fin 21} (h13 : k ≠ 13) (h20 : k ≠ 20) : (csumGen f)[k] = f[k] := by
  rw [csumGen, setField_getElem_ne _ _ _ _ h20, setField_getElem_ne _ _ _ _ h13]

/-- A range that holds neither stored sum is left. -/
theorem xorBytes_csumGen (f : Frame) {a n : Nat} (h13 : 13 < a ∨ a + n ≤ 13) (h20 : a + n ≤ 20) :
    xorBytes (csumGen f) a n = xorBytes f a n := by
  rw [csumGen_eq_set, xorBytes_set_of_outside _ _ _ (by omega) (.inr h20),
    xorBytes_set_of_outside _ _ _ (by omega) h13]

theorem sum1_csumGen (f : Frame) : sum1 (csumGen f) = sum1 f := xorBytes_csumGen f (by decide) (by decide)

theorem sum2_csumGen (f : Frame) : sum2 (csumGen f) = sum2 f := xorBytes_csumGen f (by decide) (by decide)

theorem csumChk_csumGen (f : Frame) : csumChk (csumGen f) = (false, false) := by
  have h13 : (csumGen f)[13] = sum1 f := by simp [csumGen_eq_set]
  have h20 : (csumGen f)[20] = sum2 f := by simp [csumGen_eq_set]
  rw [csumChk, bad1, bad2, h13, h20, sum1_csumGen, sum2_csumGen, bne_self_eq_false, bne_self_eq_false]

/-- CSUM.GEN leaves a frame whose sums are right already. -/
theorem csumGen_eq_self {f : Frame} (hvalid : csumChk f = (false, false)) : csumGen f = f := by
  obtain ⟨hbad1, hbad2⟩ := (csumChk_eq_iff f _ _).mp hvalid
  rw [bad1, bne_eq_false_iff_eq] at hbad1
  rw [bad2, bne_eq_false_iff_eq] at hbad2
  rw [csumGen_eq_set, ← hbad1, ← hbad2, Vector.set_getElem_self, Vector.set_getElem_self]

/-- Settles O15: the sums written are right, so a second CSUM.GEN finds nothing to change. -/
theorem generatedChecksumsAreValid : Obligations.GeneratedChecksumsAreValid := by
  unfold Obligations.GeneratedChecksumsAreValid
  intro f
  exact ⟨csumChk_csumGen f, csumGen_eq_self (csumChk_csumGen f), fun _ h13 h20 => csumGen_getElem_of_ne f h13 h20⟩

end Sys2Proof.Machine
end

section
/-! PROOFS. DEMOD by the symbols selected at the places of the grammar: it answers the frame whose symbols they are, or
fails at the first place where nothing is selected (42_timing_codec.md R152 to R154, R161 to R168). -/

namespace Sys2Proof.Machine

/-! ### What fits at the cursor -/

/-- The items of the symbol stand at the cursor, within the tolerance (42_timing_codec.md R152 to R154). -/
def SymbolFits (tol : Fin 101) (rx : Train) (cur : Nat) (y : Symbol) : Prop :=
  itemMatches tol rx cur .mark (symbolMark y) = true ∧
    ∀ sp, symbolSpace y = some sp → itemMatches tol rx (cur + 1) .space sp = true

theorem expectSymbol_isSome_iff (tol : Fin 101) (rx : Train) (cur : Nat) (y : Symbol) :
    (expectSymbol tol rx cur y).isSome = true ↔ SymbolFits tol rx cur y := by
  cases h : symbolSpace y with
  | none => simp [expectSymbol, SymbolFits, h, expectMark]
  | some sp => simp [expectSymbol, SymbolFits, h, expectItem]

/-- A symbol fits only where the train has all its items. -/
theorem SymbolFits.le_length {tol : Fin 101} {rx : Train} {cur : Nat} {y : Symbol} (h : SymbolFits tol rx cur y) :
    cur + (symbolItems y).length ≤ rx.length := by
  obtain ⟨c, hc⟩ := Option.isSome_iff_exists.mp ((expectSymbol_isSome_iff tol rx cur y).mpr h)
  obtain ⟨rfl, hle⟩ := expectSymbol_some hc
  exact hle

theorem symbolItems_length_pos (y : Symbol) : 0 < (symbolItems y).length := by cases y <;> decide

/-- What follows a symbol's items does not matter to the symbol. -/
theorem symbolFits_append_iff {tol : Fin 101} {rx : Train} {cur : Nat} {y : Symbol} (more : Train)
    (hlen : cur + (symbolItems y).length ≤ rx.length) :
    SymbolFits tol (rx ++ more) cur y ↔ SymbolFits tol rx cur y := by
  have hpos := symbolItems_length_pos y
  have hmark := itemMatches_append (tol := tol) (l := .mark) (e := symbolMark y) more (by omega : cur < rx.length)
  cases hspace : symbolSpace y with
  | none => simp [SymbolFits, hspace, hmark]
  | some sp =>
    have hlt : cur + 1 < rx.length := by
      simp only [symbolItems, hspace, List.length_cons, List.length_nil] at hlen
      omega
    simp [SymbolFits, hspace, hmark, itemMatches_append more hlt]

/-! ### The symbol selected at a place -/

/-- At a place the first candidate wins, and only a clear bit has one before it: the set bit (42_timing_codec.md R162). -/
theorem find?_candidates {p : Place} {y : Symbol} {q : Symbol → Bool} (hy : y ∈ candidates p) (hq : q y = true)
    (hfirst : y = .bit0 → q .bit1 = false) : (candidates p).find? q = some y := by
  cases p with
  | bit k j =>
    simp only [candidates, List.mem_cons, List.not_mem_nil, or_false] at hy
    rcases hy with rfl | rfl
    · simp [candidates, hq]
    · simp [candidates, hq, hfirst rfl]
  | hdr | div | ftr =>
    obtain rfl := List.mem_singleton.mp hy
    simp [candidates, hq]

theorem selectSymbol_of_fits {tol : Fin 101} {rx : Train} {cur : Nat} {p : Place} {y : Symbol} (hy : y ∈ candidates p)
    (hfits : SymbolFits tol rx cur y) (hfirst : y = .bit0 → ¬ SymbolFits tol rx cur .bit1) :
    selectSymbol tol rx cur (candidates p) = some y :=
  find?_candidates hy ((expectSymbol_isSome_iff tol rx cur y).mpr hfits) fun h0 =>
    Bool.eq_false_iff.mpr fun h1 => hfirst h0 ((expectSymbol_isSome_iff tol rx cur .bit1).mp h1)

theorem fits_of_selectSymbol {tol : Fin 101} {rx : Train} {cur : Nat} {ys : List Symbol} {y : Symbol}
    (h : selectSymbol tol rx cur ys = some y) : y ∈ ys ∧ SymbolFits tol rx cur y := by
  obtain ⟨hy, hsome⟩ := selectSymbol_some h
  exact ⟨hy, (expectSymbol_isSome_iff tol rx cur y).mp hsome⟩

theorem selectSymbol_isSome_iff (tol : Fin 101) (rx : Train) (cur : Nat) (ys : List Symbol) :
    (selectSymbol tol rx cur ys).isSome = true ↔ ∃ y ∈ ys, SymbolFits tol rx cur y := by
  simp only [selectSymbol, List.find?_isSome, expectSymbol_isSome_iff]

/-- What follows the items of a place does not matter to the selection there. -/
theorem selectSymbol_append {tol : Fin 101} {rx : Train} {cur : Nat} {p : Place} {y : Symbol} (more : Train)
    (hy : y ∈ candidates p) (hlen : cur + (symbolItems y).length ≤ rx.length) :
    selectSymbol tol (rx ++ more) cur (candidates p) = selectSymbol tol rx cur (candidates p) := by
  unfold selectSymbol
  refine List.find?_congr fun z hz => Bool.eq_iff_iff.mpr ?_
  rw [expectSymbol_isSome_iff, expectSymbol_isSome_iff, symbolFits_append_iff more (candidates_length hz hy ▸ hlen)]

/-! ### A decode in progress -/

theorem lt_of_grammar_getElem? {n : Nat} {p : Place} (hp : grammar[n]? = some p) : n < 172 := by
  obtain ⟨hn, _⟩ := List.getElem?_eq_some_iff.mp hp
  rwa [grammar_length] at hn

/-- Before the footer every place has two items. -/
theorem itemsOf_of_ftr_notMem {ps : List Place} (hftr : Place.ftr ∉ ps) : itemsOf ps = 2 * ps.length := by
  induction ps with
  | nil => rfl
  | cons p rest ih =>
    obtain ⟨hp, hrest⟩ := List.ne_and_not_mem_of_not_mem_cons hftr
    have hne : placeSymbol fclr p ≠ .ftr := fun h => hp ((placeSymbol_eq_ftr_iff fclr p).mp h).symm
    rw [itemsOf_cons, symbolItems_length, if_neg hne, ih hrest, List.length_cons]
    omega

/-- The decode runs and the places ahead of it are `ps`. -/
def Demod.RunsAt (d : Demod) (ps : List Place) : Prop := d.todo = ps ∧ d.failed = false ∧ d.InGrammar

theorem start_runsAt : Demod.start.RunsAt grammar := ⟨rfl, rfl, start_inGrammar⟩

theorem Demod.RunsAt.accept {d : Demod} {p : Place} {rest : List Place} {y : Symbol} (hd : d.RunsAt (p :: rest))
    (hy : y ∈ candidates p) : (d.accept y).RunsAt rest := by
  obtain ⟨htodo, hfailed, hg⟩ := hd
  have hacc := accept_expected hfailed htodo hy
  exact ⟨by rw [hacc], by rw [hacc], accept_inGrammar hg y⟩

/-- A running decode's cursor is at the first item of the place expected next, place `n` of the grammar. -/
theorem Demod.RunsAt.cur_eq {d : Demod} {p : Place} {rest : List Place} (hd : d.RunsAt (p :: rest)) :
    ∃ n, grammar[n]? = some p ∧ d.cur = 2 * n := by
  obtain ⟨htodo, _, ⟨passed, hpassed⟩, hcur⟩ := hd
  rw [htodo] at hpassed hcur
  have hftr : Place.ftr ∉ passed := fun hmem => ftr_notMem_pairPlaces (by
    rw [pairPlaces, ← hpassed, List.dropLast_append_of_ne_nil (List.cons_ne_nil p rest)]
    exact List.mem_append_left _ hmem)
  have hitems : itemsOf passed + itemsOf (p :: rest) = 343 := by
    rw [← itemsOf_grammar, ← hpassed]
    simp [itemsOf]
  refine ⟨passed.length, by simp [← hpassed], ?_⟩
  rw [itemsOf_of_ftr_notMem hftr] at hitems
  omega

/-! ### DEMOD by what is selected at the places (42_timing_codec.md R166, R167) -/

theorem demodPlaces_of_selected {tol : Fin 101} {rx : Train} {p : Place} {rest : List Place} {d : Demod} {y : Symbol}
    (hsel : selectSymbol tol rx d.cur (candidates p) = some y) :
    demodPlaces tol rx (p :: rest) d = demodPlaces tol rx rest (d.accept y) := by
  rw [demodPlaces_cons, hsel]

theorem demodPlaces_of_unselected {tol : Fin 101} {rx : Train} {p : Place} {rest : List Place} {d : Demod}
    (hd : d.RunsAt (p :: rest)) (hnone : selectSymbol tol rx d.cur (candidates p) = none) :
    demodPlaces tol rx (p :: rest) d = { d with failed := true } := by
  obtain ⟨htodo, hfailed, _⟩ := hd
  rw [demodPlaces_cons, hnone]
  simp [Demod.fail, Demod.expected, htodo, hfailed]

theorem demodPlaces_eq_foldl {tol : Fin 101} {rx : Train} {f : Frame}
    (hsel : ∀ n p, grammar[n]? = some p → selectSymbol tol rx (2 * n) (candidates p) = some (placeSymbol f p))
    {ps : List Place} {d : Demod} (hd : d.RunsAt ps) :
    demodPlaces tol rx ps d = (ps.map (placeSymbol f)).foldl Demod.accept d := by
  induction ps generalizing d with
  | nil => rfl
  | cons p rest ih =>
    obtain ⟨n, hp, hcur⟩ := hd.cur_eq
    rw [demodPlaces_of_selected (hcur ▸ hsel n p hp), ih (hd.accept (placeSymbol_mem f p))]
    rfl

/-- If the symbol selected at every place is the frame's, DEMOD answers the frame. -/
theorem demodulate_eq_ok {tol : Fin 101} {rx : Train} {f : Frame}
    (hsel : ∀ n p, grammar[n]? = some p → selectSymbol tol rx (2 * n) (candidates p) = some (placeSymbol f p)) :
    demodulate tol rx = .ok f := by
  have hdone : demodPlaces tol rx grammar Demod.start = ⟨[], 343, f, false⟩ := by
    rw [demodPlaces_eq_foldl hsel start_runsAt]
    exact foldl_accept_of_follows rfl (start_follows f) start_inGrammar
  simp [demodulate, hdone]

theorem demodPlaces_fails {tol : Fin 101} {rx : Train} {m : Nat} {q : Place} (hq : grammar[m]? = some q)
    (hbefore : ∀ n p, n < m → grammar[n]? = some p → (selectSymbol tol rx (2 * n) (candidates p)).isSome = true)
    (hnone : selectSymbol tol rx (2 * m) (candidates q) = none) {ps : List Place} {d : Demod} (hd : d.RunsAt ps)
    (hle : d.cur ≤ 2 * m) : (demodPlaces tol rx ps d).failed = true ∧ (demodPlaces tol rx ps d).cur = 2 * m := by
  induction ps generalizing d with
  | nil =>
    obtain ⟨htodo, _, hg⟩ := hd
    have hend := cur_eq_of_inGrammar hg htodo
    have hlt := lt_of_grammar_getElem? hq
    omega
  | cons p rest ih =>
    obtain ⟨n, hp, hcur⟩ := hd.cur_eq
    obtain hlt | rfl : n < m ∨ n = m := by omega
    · obtain ⟨y, hy⟩ := Option.isSome_iff_exists.mp (hbefore n p hlt hp)
      rw [← hcur] at hy
      obtain ⟨hmem, _⟩ := fits_of_selectSymbol hy
      rw [demodPlaces_of_selected hy]
      refine ih (hd.accept hmem) ?_
      obtain ⟨htodo, hfailed, _⟩ := hd
      rw [accept_expected hfailed htodo hmem]
      show d.cur + (symbolItems y).length ≤ 2 * m
      rw [symbolItems_length]
      split_ifs <;> omega
    · obtain rfl : p = q := Option.some.inj (hp.symm.trans hq)
      rw [demodPlaces_of_unselected hd (hcur ▸ hnone)]
      exact ⟨rfl, hcur⟩

/-- DEMOD fails at the mark of the first place where nothing is selected (42_timing_codec.md R167). -/
theorem demodulate_eq_fail {tol : Fin 101} {rx : Train} {m : Nat} {q : Place} (hq : grammar[m]? = some q)
    (hbefore : ∀ n p, n < m → grammar[n]? = some p → (selectSymbol tol rx (2 * n) (candidates p)).isSome = true)
    (hnone : selectSymbol tol rx (2 * m) (candidates q) = none) : demodulate tol rx = .fail (2 * m) := by
  obtain ⟨hfailed, hcur⟩ := demodPlaces_fails hq hbefore hnone start_runsAt (Nat.zero_le _)
  simp [demodulate, hfailed, hcur]

/-- Where DEMOD answers a frame, some symbol was selected at every place. -/
theorem selectSymbol_isSome_of_demodulate {tol : Fin 101} {rx : Train} {f : Frame} (hok : demodulate tol rx = .ok f)
    (n : Nat) (p : Place) (hp : grammar[n]? = some p) : (selectSymbol tol rx (2 * n) (candidates p)).isSome = true := by
  induction n using Nat.strong_induction_on generalizing p with
  | _ n ih =>
    by_contra hno
    have hfail := demodulate_eq_fail hp (fun m q hm => ih m hm q) (Option.not_isSome_iff_eq_none.mp hno)
    rw [hok] at hfail
    exact DemodResult.noConfusion hfail

theorem demodPlaces_congr {tol : Fin 101} {rx rx' : Train}
    (hsel : ∀ n p, grammar[n]? = some p →
      selectSymbol tol rx (2 * n) (candidates p) = selectSymbol tol rx' (2 * n) (candidates p))
    {ps : List Place} {d : Demod} (hd : d.RunsAt ps) : demodPlaces tol rx ps d = demodPlaces tol rx' ps d := by
  induction ps generalizing d with
  | nil => rfl
  | cons p rest ih =>
    obtain ⟨n, hp, hcur⟩ := hd.cur_eq
    rw [demodPlaces_cons, demodPlaces_cons, hcur, ← hsel n p hp]
    cases hy : selectSymbol tol rx (2 * n) (candidates p) with
    | none => rfl
    | some y =>
      obtain ⟨hmem, _⟩ := fits_of_selectSymbol hy
      exact ih (hd.accept hmem)

/-- DEMOD looks at nothing of the train but what is selected at each place. -/
theorem demodulate_congr {tol : Fin 101} {rx rx' : Train}
    (hsel : ∀ n p, grammar[n]? = some p →
      selectSymbol tol rx (2 * n) (candidates p) = selectSymbol tol rx' (2 * n) (candidates p)) :
    demodulate tol rx = demodulate tol rx' := by
  rw [demodulate, demodulate, demodPlaces_congr hsel start_runsAt]

/-- Settles O22: at every place a symbol was selected, so its items stand in the train itself and the items appended
change no selection. -/
theorem itemsAfterTheFooterAreIgnored : Obligations.ItemsAfterTheFooterAreIgnored := by
  unfold Obligations.ItemsAfterTheFooterAreIgnored
  intro tol rx more f hok
  rw [← hok]
  refine demodulate_congr fun n p hp => ?_
  obtain ⟨y, hy, hfits⟩ := (selectSymbol_isSome_iff ..).mp (selectSymbol_isSome_of_demodulate hok n p hp)
  exact selectSymbol_append more hy hfits.le_length

end Sys2Proof.Machine
end

section
/-! PROOFS. DEMOD inverts MOD within the tolerances at which a clear bit's space is not read as a set bit's
(42_timing_codec.md R151, R159, R171), a train cut short fails at the cut (R169), and a lone symbol is read at its place (R161 to R165). -/

namespace Sys2Proof.Machine

/-! ### Acceptance intervals (42_timing_codec.md R150, R151) -/

theorem matchDuration_iff (tol : Fin 101) (e o : Nat) :
    matchDuration tol e o = true ↔ e * (100 - tol.val) ≤ 100 * o ∧ 100 * o ≤ e * (100 + tol.val) := by
  simp [matchDuration]

/-- Up to 50 percent no duration is both a set and a clear bit's space. -/
theorem not_oneSpace_and_zeroSpace {tol : Fin 101} (htol : tol.val ≤ 50) (o : Nat) :
    ¬ (matchDuration tol oneSpace o = true ∧ matchDuration tol zeroSpace o = true) := by
  simp only [matchDuration_iff, oneSpace, zeroSpace]
  omega

/-- The exact space of a clear bit is read as a set bit's from 67 percent on (42_timing_codec.md R171). -/
theorem matchDuration_oneSpace_zeroSpace_iff (tol : Fin 101) :
    matchDuration tol oneSpace zeroSpace = true ↔ 67 ≤ tol.val := by
  simp only [matchDuration_iff, oneSpace, zeroSpace]
  omega

/-- Settles O20: the upper end of the shorter interval lies below the lower end of the longer one; from 51 percent on the
duration 829 lies in both. -/
theorem toleranceIntervalsOverlapOnlyWhenWide : Obligations.ToleranceIntervalsOverlapOnlyWhenWide := by
  unfold Obligations.ToleranceIntervalsOverlapOnlyWhenWide
  refine ⟨fun tol o htol => not_oneSpace_and_zeroSpace htol o, fun tol htol => ⟨829, ?_⟩, fun tol o htol => ?_⟩
  · simp only [matchDuration_iff, oneSpace, zeroSpace]
    omega
  · simp only [matchDuration_iff, oneSpace, gapSpace]
    omega

/-! ### What fits a train that follows MOD -/

/-- No symbol's mark or space is cut by the 32 bits of a duration (00_scope.md R12). -/
theorem toNat_duration_markItem (y : Symbol) : (markItem (symbolMark y)).duration.toNat = symbolMark y := by
  cases y <;> rfl

theorem toNat_duration_spaceItem {y : Symbol} {sp : Nat} (hsp : symbolSpace y = some sp) :
    (spaceItem sp).duration.toNat = sp := by
  cases y <;> cases hsp <;> rfl

/-- The received train has, for each item of MOD of the frame, an item of its level and of a matching duration. -/
def FollowsModulation (tol : Fin 101) (f : Frame) (rx : Train) : Prop :=
  ∀ (i : Nat) (it : Item), (modulate f)[i]? = some it →
    ∃ it' : Item, rx[i]? = some it' ∧ it'.level = it.level ∧
      matchDuration tol it.duration.toNat it'.duration.toNat = true

theorem modulate_followsModulation (tol : Fin 101) (f : Frame) : FollowsModulation tol f (modulate f) :=
  fun _ it hit => ⟨it, hit, rfl, matchDuration_self tol _⟩

theorem FollowsModulation.itemMatches {tol : Fin 101} {f : Frame} {rx : Train} (h : FollowsModulation tol f rx) {i : Nat}
    {it : Item} (hit : (modulate f)[i]? = some it) : itemMatches tol rx i it.level it.duration.toNat = true := by
  obtain ⟨it', hget, hlevel, hmatch⟩ := h i it hit
  simp [itemMatches_of_get hget, hlevel, hmatch]

/-- At each place the frame's own symbol fits. -/
theorem FollowsModulation.placeSymbol_fits {tol : Fin 101} {f : Frame} {rx : Train} (h : FollowsModulation tol f rx)
    {n : Nat} {p : Place} (hp : grammar[n]? = some p) : SymbolFits tol rx (2 * n) (placeSymbol f p) := by
  constructor
  · have hmark := h.itemMatches (modulate_mark_of_place f hp)
    rwa [toNat_duration_markItem] at hmark
  · intro sp hsp
    have hspace := h.itemMatches (modulate_space_of_place f hp hsp)
    rwa [toNat_duration_spaceItem hsp] at hspace

/-- Up to 50 percent what fits as a clear bit does not fit as a set one (42_timing_codec.md R162). -/
theorem not_fits_bit1_of_fits_bit0 {tol : Fin 101} (htol : tol.val ≤ 50) {rx : Train} {cur : Nat}
    (h0 : SymbolFits tol rx cur .bit0) : ¬ SymbolFits tol rx cur .bit1 := by
  intro h1
  obtain ⟨_, hzero⟩ := h0
  obtain ⟨_, hone⟩ := h1
  have hone := hone oneSpace rfl
  have hzero := hzero zeroSpace rfl
  cases hget : rx[cur + 1]? with
  | none => simp [itemMatches, hget] at hone
  | some it =>
    rw [itemMatches_of_get hget, Bool.and_eq_true] at hone hzero
    exact not_oneSpace_and_zeroSpace htol _ ⟨hone.right, hzero.right⟩

/-- Where a train has a clear bit's exact space, a set bit fits only from 67 percent on. -/
theorem not_fits_bit1_of_zeroSpace {tol : Fin 101} (htol : tol.val ≤ 66) {rx : Train} {cur : Nat}
    (hspace : rx[cur + 1]? = some (spaceItem zeroSpace)) : ¬ SymbolFits tol rx cur .bit1 := by
  rintro ⟨_, hone⟩
  have hone := hone oneSpace rfl
  rw [itemMatches_of_get hspace, toNat_duration_spaceItem (y := .bit0) rfl, Bool.and_eq_true,
    matchDuration_oneSpace_zeroSpace_iff] at hone
  omega

/-! ### DEMOD of a modulated frame (42_timing_codec.md R171) -/

theorem demodulate_modulate {tol : Fin 101} (htol : tol.val ≤ 66) (f : Frame) :
    demodulate tol (modulate f) = .ok f := by
  refine demodulate_eq_ok fun n p hp => ?_
  refine selectSymbol_of_fits (placeSymbol_mem f p) ((modulate_followsModulation tol f).placeSymbol_fits hp) fun h0 => ?_
  exact not_fits_bit1_of_zeroSpace htol (modulate_space_of_place f hp (by rw [h0]; rfl))

/-- Up to 50 percent jitter in the durations does not matter. -/
theorem demodulate_of_followsModulation {tol : Fin 101} (htol : tol.val ≤ 50) {f : Frame} {rx : Train}
    (h : FollowsModulation tol f rx) : demodulate tol rx = .ok f := by
  refine demodulate_eq_ok fun n p hp => ?_
  have hfits := h.placeSymbol_fits hp
  exact selectSymbol_of_fits (placeSymbol_mem f p) hfits fun h0 => not_fits_bit1_of_fits_bit0 htol (h0 ▸ hfits)

/-- The frame with every bit set. -/
def onesFrame : Frame := Vector.replicate 21 0xFF

theorem placeSymbol_onesFrame_bit (k : Fin 21) (j : Fin 8) : placeSymbol onesFrame (.bit k j) = .bit1 := by
  have hones : ∀ j : Fin 8, (0xFF : Byte)[j] = true := by decide
  have hbit : onesFrame[k][j] = true := by simpa [onesFrame] using hones j
  rw [placeSymbol, hbit]
  rfl

theorem placeSymbol_onesFrame_ne_bit0 (p : Place) : placeSymbol onesFrame p ≠ .bit0 := by
  cases p with
  | bit k j => simp [placeSymbol_onesFrame_bit]
  | hdr | div | ftr => simp [placeSymbol]

/-- From 67 percent on a set bit fits at every bit of a modulated frame. -/
theorem placeSymbol_onesFrame_fits {tol : Fin 101} (htol : 67 ≤ tol.val) (f : Frame) {n : Nat} {p : Place}
    (hp : grammar[n]? = some p) : SymbolFits tol (modulate f) (2 * n) (placeSymbol onesFrame p) := by
  have hown := (modulate_followsModulation tol f).placeSymbol_fits hp
  cases p with
  | hdr | div | ftr => exact hown
  | bit k j =>
    rw [placeSymbol_onesFrame_bit]
    have hbit : placeSymbol f (.bit k j) = .bit1 ∨ placeSymbol f (.bit k j) = .bit0 := by
      simpa [candidates] using placeSymbol_mem f (.bit k j)
    rcases hbit with hone | hzero
    · rwa [hone] at hown
    · rw [hzero] at hown
      obtain ⟨hmark, _⟩ := hown
      refine ⟨hmark, fun sp hsp => ?_⟩
      obtain rfl : oneSpace = sp := Option.some.inj hsp
      rw [itemMatches_of_get (modulate_space_of_place f hp (by rw [hzero]; rfl)),
        toNat_duration_spaceItem (y := .bit0) rfl, (matchDuration_oneSpace_zeroSpace_iff tol).mpr htol]
      rfl

theorem demodulate_modulate_eq_ones {tol : Fin 101} (htol : 67 ≤ tol.val) (f : Frame) :
    demodulate tol (modulate f) = .ok onesFrame := by
  refine demodulate_eq_ok fun n p hp => ?_
  exact selectSymbol_of_fits (placeSymbol_mem onesFrame p) (placeSymbol_onesFrame_fits htol f hp) fun h0 =>
    absurd h0 (placeSymbol_onesFrame_ne_bit0 p)

/-- Settles O21: in each of the three ranges of the tolerance it is known which symbol is selected at every place. -/
theorem demodulationInvertsModulation : Obligations.DemodulationInvertsModulation := by
  unfold Obligations.DemodulationInvertsModulation
  exact ⟨fun _ f htol => demodulate_modulate htol f, fun _ f htol => demodulate_modulate_eq_ones htol f,
    fun _ _ _ htol h => demodulate_of_followsModulation htol h⟩

/-- Settles O49: the train demodulates to the frame, whose reception is both RECV and the frame's class. -/
theorem recvOfAModulatedFrameRunsItsClass : Obligations.RecvOfAModulatedFrameRunsItsClass := by
  unfold Obligations.RecvOfAModulatedFrameRunsItsClass
  intro f s htol
  rw [exec_recv_of_demodulate (demodulate_modulate htol f), exec_instrOfFrame]

/-- Settles O18: exact trains are told apart by DEMOD at tolerance 0. -/
theorem modulationIsInjective : Obligations.ModulationIsInjective := by
  unfold Obligations.ModulationIsInjective
  intro f g
  refine ⟨modulate_length f, fun heq => DemodResult.ok.inj ?_⟩
  rw [← demodulate_modulate (tol := 0) (by decide) f, ← demodulate_modulate (tol := 0) (by decide) g, heq]

/-! ### Trains cut short (42_timing_codec.md R169) -/

/-- A train that demodulates has its footer, item 342. -/
theorem length_le_of_demodulate {tol : Fin 101} {rx : Train} {f : Frame} (hok : demodulate tol rx = .ok f) :
    343 ≤ rx.length := by
  have hsome := selectSymbol_isSome_of_demodulate hok 171 .ftr grammar_ftr
  obtain ⟨y, hy, hfits⟩ := (selectSymbol_isSome_iff ..).mp hsome
  obtain rfl := List.mem_singleton.mp hy
  exact hfits.le_length

/-- The footer is the last place of the grammar and no other. -/
theorem eq_ftr_iff_of_grammar_getElem? {n : Nat} {p : Place} (hp : grammar[n]? = some p) : p = .ftr ↔ n = 171 := by
  constructor
  · rintro rfl
    have hlt := lt_of_grammar_getElem? hp
    by_contra hne
    have hpair : pairPlaces[n]? = some .ftr := by
      rw [pairPlaces, List.getElem?_dropLast, if_pos (by rw [grammar_length]; omega), hp]
    exact ftr_notMem_pairPlaces (List.mem_of_getElem? hpair)
  · rintro rfl
    exact Option.some.inj (hp.symm.trans grammar_ftr)

theorem eq_ftr_iff_of_mem_candidates {p : Place} {y : Symbol} (hy : y ∈ candidates p) : y = .ftr ↔ p = .ftr := by
  cases p with
  | bit k j =>
    simp only [candidates, List.mem_cons, List.not_mem_nil, or_false] at hy
    rcases hy with rfl | rfl <;> simp
  | hdr | div | ftr =>
    obtain rfl := List.mem_singleton.mp hy
    simp

/-- The items of a symbol at place `n` end where the next place begins, and those of the footer end the train. -/
theorem symbolItems_end {n : Nat} {p : Place} {y : Symbol} (hp : grammar[n]? = some p) (hy : y ∈ candidates p) :
    2 * n + (symbolItems y).length = if n = 171 then 343 else 2 * n + 2 := by
  rw [symbolItems_length]
  simp only [eq_ftr_iff_of_mem_candidates hy, eq_ftr_iff_of_grammar_getElem? hp]
  split_ifs <;> omega

/-- The symbol that does not fit entirely is that of place `n / 2` (42_timing_codec.md R169). -/
theorem demodulate_take_modulate (tol : Fin 101) (f : Frame) {n : Nat} (hn : n < 343) :
    demodulate tol ((modulate f).take n) = .fail (n - n % 2) := by
  have hlen : ((modulate f).take n).length = n := by
    rw [List.length_take, modulate_length]
    omega
  have hm : n / 2 < grammar.length := by
    rw [grammar_length]
    omega
  have hq : grammar[n / 2]? = some grammar[n / 2] := List.getElem?_eq_getElem hm
  rw [show n - n % 2 = 2 * (n / 2) by omega]
  refine demodulate_eq_fail hq (fun k p hk hp => ?before) (Option.not_isSome_iff_eq_none.mp fun hsome => ?here)
  case before =>
    refine (selectSymbol_isSome_iff ..).mpr ⟨placeSymbol f p, placeSymbol_mem f p, ?_⟩
    have hend := symbolItems_end hp (placeSymbol_mem f p)
    have hfits := (modulate_followsModulation tol f).placeSymbol_fits hp
    rw [← List.take_append_drop n (modulate f)] at hfits
    refine (symbolFits_append_iff _ ?_).mp hfits
    split_ifs at hend <;> omega
  case here =>
    obtain ⟨y, hy, hfits⟩ := (selectSymbol_isSome_iff ..).mp hsome
    have hend := symbolItems_end hq hy
    have hle := hfits.le_length
    split_ifs at hend <;> omega

/-- Settles O23: DEMOD examines item 342 before it answers a frame, and the first symbol cut off fits nowhere. -/
theorem shortTrainsFailAtTheCut : Obligations.ShortTrainsFailAtTheCut := by
  unfold Obligations.ShortTrainsFailAtTheCut
  refine ⟨fun tol rx f hlen hok => ?_, fun tol => ?_, fun tol f n hn => demodulate_take_modulate tol f hn⟩
  · exact absurd (length_le_of_demodulate hok) (Nat.not_le_of_lt hlen)
  · exact demodulate_take_modulate tol fclr (n := 0) (by decide)

/-! ### Lone symbol words (42_timing_codec.md R161 to R165; log 11) -/

/-- A symbol's exact items fit the symbol at any tolerance. -/
theorem symbolFits_symbolItems (tol : Fin 101) (y : Symbol) : SymbolFits tol (symbolItems y) 0 y := by
  have hmark : (symbolItems y)[0]? = some (markItem (symbolMark y)) := by cases y <;> rfl
  have hspace : (symbolItems y)[1]? = (symbolSpace y).map spaceItem := by cases y <;> rfl
  constructor
  · rw [itemMatches_of_get hmark, toNat_duration_markItem, matchDuration_self]
    rfl
  · intro sp hsp
    rw [hsp] at hspace
    rw [itemMatches_of_get hspace, toNat_duration_spaceItem hsp, matchDuration_self]
    rfl

theorem symbolOfItems_candidates {tol : Fin 101} (htol : tol.val ≤ 66) {p : Place} {y : Symbol}
    (hy : y ∈ candidates p) : symbolOfItems tol (candidates p) (symbolItems y) = some y := by
  refine find?_candidates hy ?own ?first
  case own => simpa using (expectSymbol_isSome_iff tol _ 0 y).mpr (symbolFits_symbolItems tol y)
  case first =>
    rintro rfl
    have hno : ¬ SymbolFits tol (symbolItems .bit0) 0 .bit1 := not_fits_bit1_of_zeroSpace htol rfl
    rw [← expectSymbol_isSome_iff, Bool.not_eq_true] at hno
    rw [hno, Bool.and_false]

/-- Settles O4: the word keeps the symbol's items, and at its place the symbol is selected for them. -/
theorem nominalSymbolsDecodeAtTheirPlaces : Obligations.NominalSymbolsDecodeAtTheirPlaces := by
  unfold Obligations.NominalSymbolsDecodeAtTheirPlaces
  intro tol p y htol hy
  simp [symbolWord, decode, -List.map_map, map_itemOfWord_map_wordOfItem, symbolOfItems_candidates htol hy]

end Sys2Proof.Machine
end

section
/-! PROOFS. The duration of a train (42_timing_codec.md R160). -/

namespace Sys2Proof.Machine

/-- The sum of a train's durations. -/
def totalDuration (rx : Train) : Nat := (rx.map fun it => it.duration.toNat).sum

theorem totalDuration_append (rx rx' : Train) : totalDuration (rx ++ rx') = totalDuration rx + totalDuration rx' := by
  simp [totalDuration]

theorem totalDuration_flatMap {α : Type} (g : α → Train) (xs : List α) :
    totalDuration (xs.flatMap g) = (xs.map fun x => totalDuration (g x)).sum := by
  induction xs with
  | nil => rfl
  | cons x xs ih => rw [List.flatMap_cons, totalDuration_append, ih, List.map_cons, List.sum_cons]

/-- A set bit's symbol lasts 1106 longer than a clear bit's. -/
theorem totalDuration_bitSymbol (b : Bool) :
    totalDuration (symbolItems (bitSymbol b)) = 1125 + 1106 * b.toNat := by cases b <;> rfl

/-- The number of set bits of a byte. -/
def setBits (b : Byte) : Nat := ((List.finRange 8).filter fun j => b[j]).length

theorem sum_toNat_eq_length_filter {α : Type} (q : α → Bool) (xs : List α) :
    (xs.map fun x => (q x).toNat).sum = (xs.filter q).length := by
  induction xs with
  | nil => rfl
  | cons x xs ih => cases hx : q x <;> simp [hx, ih, Nat.add_comm]

theorem totalDuration_modByte (b : Byte) : totalDuration (modByte b) = 9000 + 1106 * setBits b := by
  simp only [modByte, totalDuration_flatMap, totalDuration_bitSymbol, List.sum_map_add, List.sum_map_mul_left,
    sum_toNat_eq_length_filter, setBits]
  rfl

theorem totalDuration_modulate (f : Frame) :
    totalDuration (modulate f) = 220130 + 1106 * ((List.finRange 21).map fun k => setBits f[k]).sum := by
  have hframing : totalDuration (symbolItems .hdr) + (((List.finRange 21).map fun _ => 9000).sum +
      ((List.finRange 21).map fun k => totalDuration (if dividerAfter k then symbolItems .div else [])).sum) +
      totalDuration (symbolItems .ftr) = 220130 := by decide +kernel
  simp only [modulate, totalDuration_append, totalDuration_flatMap, totalDuration_modByte, List.sum_map_add,
    List.sum_map_mul_left]
  omega

/-- Settles O19: header, dividers, footer and the clear bits' symbols last 220130, and each set bit adds 1106. -/
theorem trainDurationCountsTheSetBits : Obligations.TrainDurationCountsTheSetBits := by
  unfold Obligations.TrainDurationCountsTheSetBits
  exact totalDuration_modulate

end Sys2Proof.Machine
end

section
/-! PROOFS. The arrival of a symbol where it is expected and where it is not (30_encoding.md R91 to R95,
42_timing_codec.md R161 to R168; logs 8, 10, 19). -/

namespace Sys2Proof.Machine

/-- A symbol instruction at a place where the symbol may stand. -/
theorem exec_expected {s : State} {p : Place} {rest : List Place} {y : Symbol} (hfailed : s.dm.failed = false)
    (htodo : s.dm.todo = p :: rest) (hy : y ∈ candidates p) :
    exec (instrOfSymbol y) s = .next { s with publish := false, sink := none,
                                              dm := { s.dm with todo := rest, cur := s.dm.cur + (symbolItems y).length,
                                                                frame := depositSymbol s.dm.frame p y } } := by
  have hacc : s.dm.accept y = { s.dm with todo := rest, cur := s.dm.cur + (symbolItems y).length,
                                          frame := depositSymbol s.dm.frame p y } := by
    rw [accept_expected hfailed htodo hy, ← hfailed]
  rw [exec_instrOfSymbol, acceptSymbol, hacc]
  rfl

/-- Settles O24: each of the five may stand at its place, and only a set bit is deposited. -/
theorem expectedSymbolsMoveTheDecodeOn : Obligations.ExpectedSymbolsMoveTheDecodeOn := by
  unfold Obligations.ExpectedSymbolsMoveTheDecodeOn
  intro s rest k j hfailed
  refine ⟨fun htodo => ?header, fun htodo => ⟨?setBit, ?clearBit⟩, fun htodo => ?divider, fun htodo => ?footer⟩
  case header => exact exec_expected (y := .hdr) hfailed htodo (by decide)
  case setBit => exact exec_expected (y := .bit1) hfailed htodo (by simp [candidates])
  case clearBit => exact exec_expected (y := .bit0) hfailed htodo (by simp [candidates])
  case divider => exact exec_expected (y := .div) hfailed htodo (by decide)
  case footer => exact exec_expected (y := .ftr) hfailed htodo (by decide)

theorem accept_unexpected {d : Demod} {p : Place} {rest : List Place} {y : Symbol} (hfailed : d.failed = false)
    (htodo : d.todo = p :: rest) (hy : y ∉ candidates p) : d.accept y = { d with failed := true } := by
  simp [Demod.accept, hfailed, htodo, hy]

theorem accept_finished {d : Demod} (y : Symbol) (hdone : d.failed = true ∨ d.todo = []) : d.accept y = d := by
  rcases accept_cases d y with ⟨p, rest, hfailed, htodo, _⟩ | ⟨p, rest, hfailed, htodo, _⟩ | ⟨_, he⟩
  · simp [hfailed, htodo] at hdone
  · simp [hfailed, htodo] at hdone
  · exact he

/-- Settles O25: what the arrival makes of the demodulator is all that the symbol makes of the state. -/
theorem unexpectedSymbolsFailTheDecode : Obligations.UnexpectedSymbolsFailTheDecode := by
  unfold Obligations.UnexpectedSymbolsFailTheDecode
  intro s y
  refine ⟨fun p rest hfailed htodo hy => ?_, fun hdone => ?_⟩
  · rw [exec_instrOfSymbol, acceptSymbol, accept_unexpected hfailed htodo hy]
    rfl
  · rw [exec_instrOfSymbol, acceptSymbol, accept_finished y hdone]
    rfl

end Sys2Proof.Machine
end

section
/-! PROOFS. The frame XMIT builds, as a list of conditional field writes of which the last one that is on wins
(43_encoder.md R196, R198): each field is read off the writes to it. -/

namespace Sys2Proof.Machine

/-! ### Conditional field writes -/

/-- A write to a field, performed if `on` and left out otherwise. -/
structure FieldWrite where
  on : Bool
  field : Field
  value : Nat

/-- The frame after a conditional write. -/
def FieldWrite.apply (f : Frame) (w : FieldWrite) : Frame := if w.on then setField f w.field w.value else f

/-- The frame after conditional writes, in their order. -/
def applyWrites (ws : List FieldWrite) (f : Frame) : Frame := ws.foldl FieldWrite.apply f

/-- What a field that held `v` holds after the writes to it. -/
def lastValue (y : Field) (ws : List FieldWrite) (v : Nat) : Nat :=
  (ws.filter fun w => w.field = y).foldl (fun v w => if w.on then w.value % 2 ^ y.w else v) v

theorem applyWrites_append (ws ws' : List FieldWrite) (f : Frame) :
    applyWrites (ws ++ ws') f = applyWrites ws' (applyWrites ws f) :=
  List.foldl_append

theorem getField_fclr (y : Field) : getField fclr y = 0 := by
  simp [getField, fclr]

/-- A field that no write names keeps its value. -/
theorem lastValue_of_unnamed {y : Field} {ws : List FieldWrite} (hws : ∀ w ∈ ws, w.field ≠ y) (v : Nat) :
    lastValue y ws v = v := by
  rw [lastValue, List.filter_eq_nil_iff.mpr (by simpa using hws), List.foldl_nil]

/-- A field is read off the writes to it when the other writes share no bit with it. -/
theorem getField_applyWrites {y : Field} (hfit : y.lo + y.w ≤ 8) {ws : List FieldWrite}
    (hws : ∀ w ∈ ws, w.field = y ∨ w.field.Apart y) (f : Frame) :
    getField (applyWrites ws f) y = lastValue y ws (getField f y) := by
  induction ws generalizing f with
  | nil => rfl
  | cons w ws ih =>
    obtain ⟨hw, hrest⟩ := List.forall_mem_cons.mp hws
    obtain ⟨on, x, v⟩ := w
    have hhead : getField (FieldWrite.apply f ⟨on, x, v⟩) y = lastValue y [⟨on, x, v⟩] (getField f y) := by
      by_cases hxy : x = y
      · subst hxy
        cases on <;> simp [FieldWrite.apply, lastValue, getField_setField_self f hfit]
      · cases on <;> simp [FieldWrite.apply, lastValue, hxy, getField_setField_of_apart f (hw.resolve_left hxy)]
    show getField (applyWrites ws (FieldWrite.apply f ⟨on, x, v⟩)) y = _
    rw [ih hrest, hhead]
    by_cases hxy : x = y <;> simp [lastValue, hxy]

/-! ### The writes of the encoder's steps (43_encoder.md R183 to R191) -/

/-- Step 1 (43_encoder.md R183). -/
def initWrites (inst : Instance) (m : Model) : List FieldWrite :=
  [⟨true, fieldHdr0, inst.hdr0.toNat⟩, ⟨true, fieldHdr1, inst.hdr1.toNat⟩, ⟨true, fieldByte6, byte6Sentinel⟩,
    ⟨true, fieldByte18, b18 m⟩]

/-- Step 2 (43_encoder.md R184). -/
def powerWrites (toggled : Bool) : List FieldWrite :=
  [⟨toggled, fieldPower, 1⟩, ⟨toggled, fieldCmd, cmdPower⟩, ⟨toggled, fieldSwing1, 0⟩, ⟨toggled, fieldSwing2, 0⟩]

/-- Step 3 (43_encoder.md R185). -/
def modeWrites (mode : Mode) : List FieldWrite :=
  [⟨mode ≠ .off, fieldMode, (wireMode mode).getD 0⟩, ⟨mode ≠ .off ∧ mode ≠ .auto, fieldCmd, cmdMode⟩]

/-- Step 4 (43_encoder.md R186). -/
def autoWrites (m : Model) (mode : Mode) (t : Int) : List FieldWrite :=
  [⟨mode = .auto, fieldAuto6, 0x80⟩, ⟨mode = .auto, fieldCmd, cmdAutoset⟩,
    ⟨mode = .auto, fieldTemp, (autoRef - tmin m).toNat⟩, ⟨mode = .auto, fieldAto, (autoEnc (autoOffset m t)).1.toNat⟩,
    ⟨mode = .auto, fieldPad1, (autoEnc (autoOffset m t)).2.toNat⟩]

/-- Step 5 (43_encoder.md R187). -/
def tempWrites (m : Model) (mode : Mode) (t : Int) : List FieldWrite :=
  [⟨mode ≠ .auto, fieldTemp, (tempEnc m t).toNat⟩]

/-- Step 6 (43_encoder.md R188). -/
def tempCmdWrites (tc toggled : Bool) : List FieldWrite := [⟨tc && !toggled, fieldCmd, cmdTemp⟩]

/-- Step 7 (43_encoder.md R189). -/
def fanWrites (fan : Fan) : List FieldWrite := [⟨true, fieldFan, wireFan fan⟩, ⟨fan ≠ .auto, fieldCmd, cmdFan⟩]

/-- Step 8 (43_encoder.md R190). -/
def swingWrites (sr : Bool) : List FieldWrite := [⟨sr, fieldSwing1, 1⟩, ⟨sr, fieldSwing2, 1⟩, ⟨sr, fieldCmd, cmdSwing⟩]

/-- Step 9, which clears Auto6 under another command than the auto set (43_encoder.md R191). -/
def auto6Writes (cmd : Nat) : List FieldWrite := [⟨cmd ≠ cmdAutoset, fieldAuto6, 0⟩]

theorem encodeInit_eq (inst : Instance) (m : Model) : encodeInit inst m = applyWrites (initWrites inst m) fclr := rfl

theorem encodePower_eq (toggled : Bool) (f : Frame) :
    encodePower toggled f = applyWrites (powerWrites toggled) f := by
  cases toggled <;> rfl

theorem encodeMode_eq (mode : Mode) (f : Frame) : encodeMode mode f = applyWrites (modeWrites mode) f := by
  cases mode <;> rfl

theorem encodeAuto_eq (m : Model) (mode : Mode) (t : Int) (f : Frame) :
    encodeAuto m mode t f = applyWrites (autoWrites m mode t) f := by
  by_cases hauto : mode = .auto <;> simp [encodeAuto, applyWrites, autoWrites, FieldWrite.apply, hauto]

theorem encodeTemp_eq (m : Model) (mode : Mode) (t : Int) (f : Frame) :
    encodeTemp m mode t f = applyWrites (tempWrites m mode t) f := by
  by_cases hauto : mode = .auto <;> simp [encodeTemp, applyWrites, tempWrites, FieldWrite.apply, hauto]

theorem encodeTempCmd_eq (tc toggled : Bool) (f : Frame) :
    encodeTempCmd tc toggled f = applyWrites (tempCmdWrites tc toggled) f := rfl

theorem encodeFan_eq (fan : Fan) (f : Frame) : encodeFan fan f = applyWrites (fanWrites fan) f := by
  cases fan <;> rfl

theorem encodeSwing_eq (sr : Bool) (f : Frame) : encodeSwing sr f = applyWrites (swingWrites sr) f := by
  cases sr <;> rfl

theorem encodeAuto6_eq (f : Frame) : encodeAuto6 f = applyWrites (auto6Writes (getField f fieldCmd)) f := by
  by_cases hcmd : getField f fieldCmd = cmdAutoset <;>
    simp [encodeAuto6, applyWrites, auto6Writes, FieldWrite.apply, hcmd]

/-! ### The writes of a whole XMIT -/

/-- The writes of steps 1 to 8. -/
def earlyWrites (inst : Instance) (m : Model) (pwr : Bool) (mode : Mode) (t : Int) (fan : Fan) (tc sr : Bool) :
    List FieldWrite :=
  initWrites inst m ++ powerWrites (toggles mode pwr) ++ modeWrites mode ++ autoWrites m mode t ++
    tempWrites m mode t ++ tempCmdWrites tc (toggles mode pwr) ++ fanWrites fan ++ swingWrites sr

/-- The command by the decision table (43_encoder.md R197): the writes to Cmd, the last that is on first. -/
def cmdByTable (toggled : Bool) (mode : Mode) (fan : Fan) (tc sr : Bool) : Nat :=
  if sr then 0x07
  else if fan ≠ .auto then 0x11
  else if tc && !toggled then 0x02
  else if mode = .auto then 0x17
  else if mode ≠ .off then 0x06
  else if toggled then 0x01
  else 0x00

/-- The table's auto-set row. -/
theorem cmdByTable_eq_cmdAutoset_iff (toggled : Bool) (mode : Mode) (fan : Fan) (tc sr : Bool) :
    cmdByTable toggled mode fan tc sr = cmdAutoset ↔
      mode = .auto ∧ sr = false ∧ fan = .auto ∧ (tc && !toggled) = false := by
  unfold cmdByTable
  split_ifs <;> simp_all [cmdAutoset]

/-- The writes of steps 1 to 9, step 9 knowing the command by the table. -/
def xmitWrites (inst : Instance) (m : Model) (pwr : Bool) (mode : Mode) (t : Int) (fan : Fan) (tc sr : Bool) :
    List FieldWrite :=
  earlyWrites inst m pwr mode t fan tc sr ++ auto6Writes (cmdByTable (toggles mode pwr) mode fan tc sr)

/-- The fields that some write names. -/
def drivenFields : List Field :=
  [fieldHdr0, fieldHdr1, fieldByte6, fieldByte18, fieldPower, fieldCmd, fieldSwing1, fieldSwing2, fieldMode, fieldAuto6,
    fieldTemp, fieldAto, fieldPad1, fieldFan]

/-- A field within one byte, outside the stored sums, that meets no driven field but itself. -/
abbrev Field.Separate (y : Field) : Prop :=
  y.lo + y.w ≤ 8 ∧ y.byte ≠ 13 ∧ y.byte ≠ 20 ∧ ∀ x ∈ drivenFields, x = y ∨ x.Apart y

section

variable (inst : Instance) (m : Model) (pwr : Bool) (mode : Mode) (g : Degrees) (fan : Fan) (tc sr : Bool)

/-- Every write names a driven field. -/
theorem field_mem_drivenFields (t : Int) :
    ∀ w ∈ xmitWrites inst m pwr mode t fan tc sr, w.field ∈ drivenFields := by
  simp [xmitWrites, earlyWrites, initWrites, powerWrites, modeWrites, autoWrites, tempWrites, tempCmdWrites, fanWrites,
    swingWrites, auto6Writes, drivenFields]

/-- The writes to Cmd, the last that is on winning, are the decision table's rows from the top (43_encoder.md R197). -/
theorem lastValue_fieldCmd_earlyWrites (t : Int) :
    lastValue fieldCmd (earlyWrites inst m pwr mode t fan tc sr) 0 = cmdByTable (toggles mode pwr) mode fan tc sr := by
  have hwrites : lastValue fieldCmd (earlyWrites inst m pwr mode t fan tc sr) 0 =
      if sr then 0x07
      else if decide (fan ≠ .auto) then 0x11
      else if tc && !toggles mode pwr then 0x02
      else if decide (mode = .auto) then 0x17
      else if decide (mode ≠ .off ∧ mode ≠ .auto) then 0x06
      else if toggles mode pwr then 0x01
      else 0x00 := rfl
  rw [hwrites, cmdByTable]
  by_cases hauto : mode = .auto <;> simp [hauto]

/-- Steps 1 to 9 of the encoder are the writes listed, and step 10 sets the sums (43_encoder.md R196). -/
theorem buildFrame_eq : buildFrame inst m pwr mode g fan tc sr =
    csumGen (applyWrites (xmitWrites inst m pwr mode g.toInt fan tc sr) fclr) := by
  have hcmd : getField (applyWrites (earlyWrites inst m pwr mode g.toInt fan tc sr) fclr) fieldCmd =
      cmdByTable (toggles mode pwr) mode fan tc sr := by
    rw [getField_applyWrites (by decide), getField_fclr, lastValue_fieldCmd_earlyWrites]
    exact fun w hw => (by decide : ∀ x ∈ drivenFields, x = fieldCmd ∨ x.Apart fieldCmd) _
      (field_mem_drivenFields inst m pwr mode fan tc sr g.toInt w (List.mem_append_left _ hw))
  rw [xmitWrites, applyWrites_append, ← hcmd, ← encodeAuto6_eq]
  simp only [earlyWrites, applyWrites_append, ← encodeSwing_eq, ← encodeFan_eq, ← encodeTempCmd_eq, ← encodeTemp_eq,
    ← encodeAuto_eq, ← encodeMode_eq, ← encodePower_eq, ← encodeInit_eq]
  rfl

/-- A field of the frame built is read off the writes to it. -/
theorem getField_buildFrame_of_separate {y : Field} (hy : y.Separate) :
    getField (buildFrame inst m pwr mode g fan tc sr) y =
      lastValue y (xmitWrites inst m pwr mode g.toInt fan tc sr) 0 := by
  obtain ⟨hfit, h13, h20, hapart⟩ := hy
  rw [buildFrame_eq, getField_congr (csumGen_getElem_of_ne _ h13 h20), getField_applyWrites hfit, getField_fclr]
  exact fun w hw => hapart _ (field_mem_drivenFields inst m pwr mode fan tc sr g.toInt w hw)

/-- A field that no step writes is zero. -/
theorem getField_buildFrame_of_undriven {y : Field} (hy : y.Separate) (hun : y ∉ drivenFields) :
    getField (buildFrame inst m pwr mode g fan tc sr) y = 0 := by
  rw [getField_buildFrame_of_separate inst m pwr mode g fan tc sr hy]
  exact lastValue_of_unnamed
    (fun w hw (h : w.field = y) => hun (h ▸ field_mem_drivenFields inst m pwr mode fan tc sr g.toInt w hw)) 0

/-! ### The fields of the frame built -/

/-- The command of the frame built is the decision table's (43_encoder.md R197). -/
theorem getField_fieldCmd_buildFrame :
    getField (buildFrame inst m pwr mode g fan tc sr) fieldCmd = cmdByTable (toggles mode pwr) mode fan tc sr :=
  (getField_buildFrame_of_separate inst m pwr mode g fan tc sr (by decide)).trans
    (lastValue_fieldCmd_earlyWrites inst m pwr mode fan tc sr g.toInt)

/-- Only step 2 writes Power (43_encoder.md R184). -/
theorem getField_fieldPower_buildFrame :
    getField (buildFrame inst m pwr mode g fan tc sr) fieldPower = (toggles mode pwr).toNat := by
  rw [getField_buildFrame_of_separate inst m pwr mode g fan tc sr (by decide)]
  show (if toggles mode pwr then 1 else 0) = _
  cases toggles mode pwr <;> rfl

/-- Step 8 wins over step 2's zeros, which change nothing (43_encoder.md R190). -/
theorem getField_swingFields_buildFrame :
    getField (buildFrame inst m pwr mode g fan tc sr) fieldSwing1 = sr.toNat ∧
    getField (buildFrame inst m pwr mode g fan tc sr) fieldSwing2 = sr.toNat := by
  rw [getField_buildFrame_of_separate inst m pwr mode g fan tc sr (by decide),
    getField_buildFrame_of_separate inst m pwr mode g fan tc sr (by decide)]
  have hvalue : (if sr then 1 else if toggles mode pwr then 0 else 0) = sr.toNat := by
    cases sr <;> simp
  exact ⟨hvalue, hvalue⟩

/-- Auto6 outlives step 9 in the auto-set row of the table only (43_encoder.md R191, R197). -/
theorem getField_fieldAuto6_buildFrame :
    getField (buildFrame inst m pwr mode g fan tc sr) fieldAuto6 =
      if mode = .auto ∧ sr = false ∧ fan = .auto ∧ (tc && !toggles mode pwr) = false then 0x80 else 0x00 := by
  have hcmd := cmdByTable_eq_cmdAutoset_iff (toggles mode pwr) mode fan tc sr
  rw [getField_buildFrame_of_separate inst m pwr mode g fan tc sr (by decide)]
  show (if decide (cmdByTable (toggles mode pwr) mode fan tc sr ≠ cmdAutoset) then 0
    else if decide (mode = .auto) then 0x80 else 0) = _
  simp only [← hcmd, decide_eq_true_eq, ne_eq, ite_not]
  split_ifs with hset hauto
  · rfl
  · obtain ⟨hmode, _⟩ := hcmd.mp hset
    exact absurd hmode hauto
  · rfl

/-- Step 3 writes the mode's wire code, and OFF leaves the zero (43_encoder.md R185). -/
theorem getField_fieldMode_buildFrame :
    getField (buildFrame inst m pwr mode g fan tc sr) fieldMode = (wireMode mode).getD 0 := by
  rw [getField_buildFrame_of_separate inst m pwr mode g fan tc sr (by decide)]
  cases mode <;> rfl

/-- Step 7 writes the fan's wire code, which fits its field (43_encoder.md R189). -/
theorem getField_fieldFan_buildFrame :
    getField (buildFrame inst m pwr mode g fan tc sr) fieldFan = wireFan fan := by
  rw [getField_buildFrame_of_separate inst m pwr mode g fan tc sr (by decide)]
  exact Nat.mod_eq_of_lt (fanCode fan).isLt

/-- Outside auto mode step 5 writes the only temperature, which fits its field (43_encoder.md R187). -/
theorem buildFrame_of_ne_auto (hmode : mode ≠ .auto) :
    getField (buildFrame inst m pwr mode g fan tc sr) fieldTemp = (tempEnc m g.toInt).toNat ∧
    getField (buildFrame inst m pwr mode g fan tc sr) fieldAto = 0 ∧
    getField (buildFrame inst m pwr mode g fan tc sr) fieldPad1 = 0 := by
  obtain ⟨hlo, hhi⟩ := tempEnc_bounds m g.toInt
  have hauto : ∀ v w : Nat, (if decide (mode = .auto) then v else w) = w := by simp [hmode]
  refine ⟨?_, ?_, ?_⟩ <;> rw [getField_buildFrame_of_separate inst m pwr mode g fan tc sr (by decide)]
  · show (if decide (mode ≠ .auto) then (tempEnc m g.toInt).toNat % 2 ^ 4 else _) = _
    rw [if_pos (decide_eq_true hmode)]
    omega
  · exact hauto _ 0
  · exact hauto _ 0

end

/-! ### Bytes from fields -/

/-- A field of eight bits is its byte. -/
theorem getField_wholeByte (f : Frame) (k : Fin 21) : getField f ⟨k, 0, 8⟩ = (f[k]).toNat := by
  rw [getField, pow_zero, Nat.div_one, Nat.mod_eq_of_lt (f[k]).isLt]

theorem getElem_eq_of_getField {f : Frame} {k : Fin 21} {b : Byte} (h : getField f ⟨k, 0, 8⟩ = b.toNat) : f[k] = b :=
  BitVec.eq_of_toNat_eq ((getField_wholeByte f k).symm.trans h)

/-- Byte 2 is made of Fan, Power, Sleep, ATO and Swing1 (30_encoding.md R71). -/
theorem byte2_eq_fields (f : Frame) :
    (f[2]).toNat = getField f fieldFan + 4 * getField f fieldPower + 8 * getField f fieldSleep +
      16 * getField f fieldAto + 128 * getField f fieldSwing1 := by
  have hlt := (f[2]).isLt
  show _ = (f[2]).toNat / 2 ^ 0 % 2 ^ 2 + 4 * ((f[2]).toNat / 2 ^ 2 % 2 ^ 1) + 8 * ((f[2]).toNat / 2 ^ 3 % 2 ^ 1) +
    16 * ((f[2]).toNat / 2 ^ 4 % 2 ^ 3) + 128 * ((f[2]).toNat / 2 ^ 7 % 2 ^ 1)
  omega

/-- Bit 3 of byte 3, which no field names (30_encoding.md R71). -/
def bit3OfByte3 : Field := ⟨3, 3, 1⟩

/-- Byte 3 is made of Mode, its unnamed bit and Temp (30_encoding.md R71). -/
theorem byte3_eq_fields (f : Frame) :
    (f[3]).toNat = getField f fieldMode + 8 * getField f bit3OfByte3 + 16 * getField f fieldTemp := by
  have hlt := (f[3]).isLt
  show _ = (f[3]).toNat / 2 ^ 0 % 2 ^ 3 + 8 * ((f[3]).toNat / 2 ^ 3 % 2 ^ 1) + 16 * ((f[3]).toNat / 2 ^ 4 % 2 ^ 4)
  omega

/-- Bits 5:0 of byte 8, which no field names (30_encoding.md R71). -/
def bits0To5OfByte8 : Field := ⟨8, 0, 6⟩

/-- Bit 7 of byte 8, which no field names (30_encoding.md R71). -/
def bit7OfByte8 : Field := ⟨8, 7, 1⟩

/-- Byte 8 is made of Swing2 and its unnamed bits (30_encoding.md R71). -/
theorem byte8_eq_fields (f : Frame) :
    (f[8]).toNat = getField f bits0To5OfByte8 + 64 * getField f fieldSwing2 + 128 * getField f bit7OfByte8 := by
  have hlt := (f[8]).isLt
  show _ = (f[8]).toNat / 2 ^ 0 % 2 ^ 6 + 64 * ((f[8]).toNat / 2 ^ 6 % 2 ^ 1) + 128 * ((f[8]).toNat / 2 ^ 7 % 2 ^ 1)
  omega

section

variable (inst : Instance) (m : Model) (pwr : Bool) (mode : Mode) (g : Degrees) (fan : Fan) (tc sr : Bool)

/-- Byte 2 of the frame built: Sleep is zero, and Swing1 is the request's flag (43_encoder.md R197). -/
theorem byte2_buildFrame :
    ((buildFrame inst m pwr mode g fan tc sr)[2]).toNat =
      getField (buildFrame inst m pwr mode g fan tc sr) fieldFan +
        4 * getField (buildFrame inst m pwr mode g fan tc sr) fieldPower +
        16 * getField (buildFrame inst m pwr mode g fan tc sr) fieldAto + 128 * sr.toNat := by
  obtain ⟨hswing1, _⟩ := getField_swingFields_buildFrame inst m pwr mode g fan tc sr
  rw [byte2_eq_fields, hswing1,
    getField_buildFrame_of_undriven (y := fieldSleep) _ _ _ _ _ _ _ _ (by decide) (by decide), mul_zero, add_zero]

/-- Byte 3 of the frame built: its unnamed bit is zero (43_encoder.md R197). -/
theorem byte3_buildFrame :
    ((buildFrame inst m pwr mode g fan tc sr)[3]).toNat =
      getField (buildFrame inst m pwr mode g fan tc sr) fieldMode +
        16 * getField (buildFrame inst m pwr mode g fan tc sr) fieldTemp := by
  rw [byte3_eq_fields, getField_buildFrame_of_undriven (y := bit3OfByte3) _ _ _ _ _ _ _ _ (by decide) (by decide),
    mul_zero, add_zero]

/-- Byte 8 of the frame built: Swing2 is the request's flag and the unnamed bits are zero (43_encoder.md R197). -/
theorem byte8_buildFrame : ((buildFrame inst m pwr mode g fan tc sr)[8]).toNat = 64 * sr.toNat := by
  obtain ⟨_, hswing2⟩ := getField_swingFields_buildFrame inst m pwr mode g fan tc sr
  rw [byte8_eq_fields, hswing2,
    getField_buildFrame_of_undriven (y := bits0To5OfByte8) _ _ _ _ _ _ _ _ (by decide) (by decide),
    getField_buildFrame_of_undriven (y := bit7OfByte8) _ _ _ _ _ _ _ _ (by decide) (by decide), mul_zero, add_zero,
    zero_add]

/-- The bytes of which no step writes any bit. -/
def undrivenBytes : List (Fin 21) := [5, 7, 9, 10, 11, 12, 14, 17, 19]

theorem undrivenBytes_buildFrame {k : Fin 21} (hk : k ∈ undrivenBytes) :
    (buildFrame inst m pwr mode g fan tc sr)[k] = 0 := by
  have hfield : ∀ k ∈ undrivenBytes, Field.Separate ⟨k, 0, 8⟩ ∧ (⟨k, 0, 8⟩ : Field) ∉ drivenFields := by decide
  obtain ⟨hsep, hun⟩ := hfield k hk
  exact getElem_eq_of_getField (getField_buildFrame_of_undriven inst m pwr mode g fan tc sr hsep hun)

/-- The four constant bytes (43_encoder.md R183). -/
theorem constantBytes_buildFrame :
    (buildFrame inst m pwr mode g fan tc sr)[0] = inst.hdr0 ∧ (buildFrame inst m pwr mode g fan tc sr)[1] = inst.hdr1 ∧
    (buildFrame inst m pwr mode g fan tc sr)[6] = 0x80 ∧
    (buildFrame inst m pwr mode g fan tc sr)[18] = BitVec.ofNat 8 (b18 m) := by
  refine ⟨getElem_eq_of_getField (k := 0) ?_, getElem_eq_of_getField (k := 1) ?_, getElem_eq_of_getField (k := 6) ?_,
    getElem_eq_of_getField (k := 18) ?_⟩ <;>
    rw [getField_buildFrame_of_separate inst m pwr mode g fan tc sr (by decide)]
  · exact Nat.mod_eq_of_lt inst.hdr0.isLt
  · exact Nat.mod_eq_of_lt inst.hdr1.isLt
  · rfl
  · cases m <;> rfl

/-- Step 10 leaves both sums right (43_encoder.md R192). -/
theorem csumChk_buildFrame : csumChk (buildFrame inst m pwr mode g fan tc sr) = (false, false) :=
  csumChk_csumGen _

end

/-! ### The statements about the frame -/

/-- The frame any XMIT shows, once it has answered (43_encoder.md R193). -/
theorem frameOut_of_exec_xmit {m : Mode} {g : Degrees} {f : Fan} {w : Swing} {tc mc sr : Bool} {s t : State}
    (hexec : exec (.xmit m g f w tc mc sr) s = .next t) :
    t.frameOut = buildFrame s.inst s.pins.model s.pwr m g f tc sr := by
  obtain ⟨t', hexec', hframe⟩ := exec_xmit m g f w tc mc sr s
  obtain rfl : t' = t := Host.Outcome.next.inj (hexec'.symm.trans hexec)
  exact hframe

/-- Settles O28: the command is the last one written, and bytes 2, 3 and 8 have no bits beyond their driven fields. -/
theorem xmitFrameFollowsTheDecisionTable : Obligations.XmitFrameFollowsTheDecisionTable := by
  unfold Obligations.XmitFrameFollowsTheDecisionTable
  intro m g f w tc mc sr s
  obtain ⟨t, hexec, hframe⟩ := exec_xmit m g f w tc mc sr s
  obtain ⟨hswing1, hswing2⟩ := getField_swingFields_buildFrame s.inst s.pins.model s.pwr m g f tc sr
  refine ⟨t, hexec, ?_⟩
  rw [hframe]
  exact ⟨getField_fieldCmd_buildFrame .., getField_fieldPower_buildFrame .., hswing1, hswing2,
    getField_fieldAuto6_buildFrame .., byte2_buildFrame .., byte3_buildFrame .., byte8_buildFrame ..⟩

/-- Settles O30: the field holds TempEnc of the target. -/
theorem xmitSendsTheClampedTargetOutsideAuto : Obligations.XmitSendsTheClampedTargetOutsideAuto := by
  unfold Obligations.XmitSendsTheClampedTargetOutsideAuto
  intro m g f w tc mc sr s hmode
  obtain ⟨t, hexec, hframe⟩ := exec_xmit m g f w tc mc sr s
  obtain ⟨htemp, hato, hpad1⟩ := buildFrame_of_ne_auto s.inst s.pins.model s.pwr m g f tc sr hmode
  obtain ⟨hlo, hhi⟩ := tempEnc_bounds s.pins.model g.toInt
  rw [← hframe] at htemp hato hpad1
  refine ⟨t, hexec, ?_, by omega, hato, hpad1⟩
  rw [htemp, Int.toNat_of_nonneg hlo, tempEnc]

/-- Settles O29: the undriven bits are fields that no step writes. -/
theorem xmitFrameHoldsConstantsCodesAndZeros : Obligations.XmitFrameHoldsConstantsCodesAndZeros := by
  unfold Obligations.XmitFrameHoldsConstantsCodesAndZeros
  intro m g f w tc mc sr s
  obtain ⟨t, hexec, hframe⟩ := exec_xmit m g f w tc mc sr s
  obtain ⟨hbyte0, hbyte1, hbyte6, hbyte18⟩ := constantBytes_buildFrame s.inst s.pins.model s.pwr m g f tc sr
  have hzero : ∀ k ∈ undrivenBytes, (buildFrame s.inst s.pins.model s.pwr m g f tc sr)[k] = 0 :=
    fun k hk => undrivenBytes_buildFrame s.inst s.pins.model s.pwr m g f tc sr hk
  refine ⟨t, hexec, ?_⟩
  rw [hframe]
  refine ⟨hbyte0, hbyte1, hbyte6, ?byte18, ?mode, ?fan, ?sleep, ?bit3, ?byte8, hzero 5 (by decide), hzero 7 (by decide),
    hzero 9 (by decide), hzero 10 (by decide), hzero 11 (by decide), hzero 12 (by decide), hzero 14 (by decide),
    hzero 17 (by decide), hzero 19 (by decide)⟩
  case byte18 =>
    rw [hbyte18]
    cases s.pins.model <;> rfl
  case mode =>
    rw [getField_fieldMode_buildFrame]
    cases m <;> rfl
  case fan =>
    rw [getField_fieldFan_buildFrame]
    cases f <;> rfl
  case sleep => exact getField_buildFrame_of_undriven _ _ _ _ _ _ _ _ (by decide) (by decide)
  case bit3 =>
    have hbit := testBit_getField (buildFrame s.inst s.pins.model s.pwr m g f tc sr) bit3OfByte3 0
    rw [getField_buildFrame_of_undriven _ _ _ _ _ _ _ _ (by decide) (by decide)] at hbit
    exact hbit.symm
  case byte8 =>
    have hbyte8 : (buildFrame s.inst s.pins.model s.pwr m g f tc sr)[8] = BitVec.ofNat 8 (64 * sr.toNat) :=
      BitVec.eq_of_toNat_eq ((byte8_buildFrame ..).trans (by cases sr <;> rfl))
    rw [hbyte8]
    cases sr <;> rfl

/-- Settles O32: step 10 sets the sums, and step 11 reads TX_EN, which the steps before it leave. -/
theorem xmitSendsACheckedFrameWhenEnabled : Obligations.XmitSendsACheckedFrameWhenEnabled := by
  unfold Obligations.XmitSendsACheckedFrameWhenEnabled
  intro m g f w tc mc sr s
  refine ⟨_, rfl, csumChk_buildFrame s.inst s.pins.model s.pwr m g f tc sr, ?_⟩
  simp [carrierHz]

/-- The frame built depends on the instance's header bytes only: TOL_PCT is not read (43_encoder.md R183, R202). -/
theorem buildFrame_congr {inst inst' : Instance} (hhdr0 : inst.hdr0 = inst'.hdr0) (hhdr1 : inst.hdr1 = inst'.hdr1)
    (m : Model) (pwr : Bool) (mode : Mode) (g : Degrees) (fan : Fan) (tc sr : Bool) :
    buildFrame inst m pwr mode g fan tc sr = buildFrame inst' m pwr mode g fan tc sr := by
  have hinit : encodeInit inst m = encodeInit inst' m := by simp only [encodeInit, finit, hhdr0, hhdr1]
  simp only [buildFrame, hinit]

/-- Settles O35: both frames are built from the same arguments. -/
theorem xmitFrameIgnoresSwingAndHistory : Obligations.XmitFrameIgnoresSwingAndHistory := by
  unfold Obligations.XmitFrameIgnoresSwingAndHistory
  intro m g f w w' tc mc sr s s' t t' hpwr hmodel hhdr0 hhdr1 hexec hexec'
  rw [frameOut_of_exec_xmit hexec, frameOut_of_exec_xmit hexec', hpwr, hmodel, buildFrame_congr hhdr0 hhdr1]

/-! ### The worked example (43_encoder.md R203) -/

/-- The exclusive-or of a range looks at the range alone. -/
theorem xorBytes_congr {f f' : Frame} {a n : Nat} (hn : a + n ≤ 21)
    (h : ∀ k : Fin 21, a ≤ k.val → k.val < a + n → f[k] = f'[k]) : xorBytes f a n = xorBytes f' a n := by
  induction n with
  | zero => rw [xorBytes_zero, xorBytes_zero]
  | succ n ih =>
    rw [xorBytes_succ f hn, xorBytes_succ f' hn, ih (by omega) fun k hlo hhi => h k hlo (by omega)]
    exact congrArg _ (h ⟨a + n, hn⟩ (Nat.le_add_right a n) (Nat.lt_succ_self (a + n)))

/-- Frames with right sums are equal if they agree on the other bytes. -/
theorem frame_eq_of_csumChk {f f' : Frame} (hf : csumChk f = (false, false)) (hf' : csumChk f' = (false, false))
    (h : ∀ k : Fin 21, k ≠ 13 → k ≠ 20 → f[k] = f'[k]) : f = f' := by
  have hsum1 : sum1 f = sum1 f' := xorBytes_congr (by decide) fun k _ hhi => h k (by omega) (by omega)
  have hsum2 : sum2 f = sum2 f' := xorBytes_congr (by decide) fun k hlo hhi => h k (by omega) (by omega)
  obtain ⟨hbad1, hbad2⟩ := (csumChk_eq_iff f _ _).mp hf
  obtain ⟨hbad1', hbad2'⟩ := (csumChk_eq_iff f' _ _).mp hf'
  simp only [bad1, bad2, bne_eq_false_iff_eq] at hbad1 hbad2 hbad1' hbad2'
  refine Vector.ext fun k hk => ?_
  by_cases h13 : k = 13
  · subst h13
    rw [hbad1, hbad1', hsum1]
  · by_cases h20 : k = 20
    · subst h20
      rw [hbad2, hbad2', hsum2]
    · exact h ⟨k, hk⟩ (Fin.ne_of_val_ne h13) (Fin.ne_of_val_ne h20)

/-- The example's 21 bytes, for given header bytes. -/
def workedExampleFrame (hdr0 hdr1 : Byte) : Frame :=
  #v[hdr0, hdr1, 0x05, 0x82, 0x00, 0x00, 0x80, 0x00, 0x00, 0x00, 0x00, 0x00, 0x00, 0x07, 0x00, 0x11, 0x00, 0x00, 0x08,
    0x00, 0x19]

theorem csumChk_workedExampleFrame (hdr0 hdr1 : Byte) : csumChk (workedExampleFrame hdr0 hdr1) = (false, false) := rfl

/-- The nineteen bytes about the sums are the constants, the driven bytes and zeros. -/
theorem buildFrame_workedExample (inst : Instance) :
    buildFrame inst .j191 false .cool 24 .high false false = workedExampleFrame inst.hdr0 inst.hdr1 := by
  generalize hF : buildFrame inst .j191 false .cool 24 .high false false = F
  have hcmd := getField_fieldCmd_buildFrame inst .j191 false .cool 24 .high false false
  have hauto6 := getField_fieldAuto6_buildFrame inst .j191 false .cool 24 .high false false
  obtain ⟨htemp, hato, hpad1⟩ := buildFrame_of_ne_auto inst .j191 false .cool 24 .high false false (by decide)
  obtain ⟨hbyte0, hbyte1, hbyte6, hbyte18⟩ := constantBytes_buildFrame inst .j191 false .cool 24 .high false false
  have hbyte2 := byte2_buildFrame inst .j191 false .cool 24 .high false false
  have hbyte3 := byte3_buildFrame inst .j191 false .cool 24 .high false false
  have hbyte8 := byte8_buildFrame inst .j191 false .cool 24 .high false false
  have hzero : ∀ k ∈ undrivenBytes, (buildFrame inst .j191 false .cool 24 .high false false)[k] = 0 :=
    fun k => undrivenBytes_buildFrame inst .j191 false .cool 24 .high false false
  have hchk := csumChk_buildFrame inst .j191 false .cool 24 .high false false
  rw [getField_fieldFan_buildFrame, getField_fieldPower_buildFrame, hato] at hbyte2
  rw [getField_fieldMode_buildFrame, htemp] at hbyte3
  rw [hF] at hcmd hauto6 hpad1 hbyte0 hbyte1 hbyte2 hbyte3 hbyte6 hbyte8 hbyte18 hzero hchk
  refine frame_eq_of_csumChk hchk (csumChk_workedExampleFrame _ _) fun k h13 h20 => ?_
  fin_cases k
  exacts [hbyte0, hbyte1, BitVec.eq_of_toNat_eq hbyte2, BitVec.eq_of_toNat_eq hbyte3,
    getElem_eq_of_getField (k := 4) hauto6, hzero 5 (by decide), hbyte6, hzero 7 (by decide),
    BitVec.eq_of_toNat_eq hbyte8, hzero 9 (by decide), hzero 10 (by decide), hzero 11 (by decide),
    hzero 12 (by decide), absurd rfl h13, hzero 14 (by decide), getElem_eq_of_getField (k := 15) hcmd,
    getElem_eq_of_getField (k := 16) hpad1, hzero 17 (by decide), hbyte18, hzero 19 (by decide), absurd rfl h20]

/-- Settles O37: the frame is built from PWR = 0 under MODEL_J191. -/
theorem workedXmitExample : Obligations.WorkedXmitExample := by
  unfold Obligations.WorkedXmitExample
  intro s hpwr hmodel
  refine ⟨_, rfl, ?_, ?_⟩
  · show buildFrame s.inst s.pins.model s.pwr .cool 24 .high false false = _
    rw [hpwr, hmodel]
    exact buildFrame_workedExample s.inst
  · simp [isOn]

/-! ### The registers after XMIT (43_encoder.md R182, R194, R199, R201) -/

/-- Settles O27: each register is written by one of the shared operations that XMIT is made of, or by none. -/
theorem xmitLatchesTheRequestAndArmsTheGuard : Obligations.XmitLatchesTheRequestAndArmsTheGuard := by
  unfold Obligations.XmitLatchesTheRequestAndArmsTheGuard
  intro m g f w tc mc sr s
  refine ⟨_, rfl, ?_⟩
  simp [guardWindow, SameResult, SameInputs]

/-- Settles O34: the encoder does not read the flag. -/
theorem modeChangedFlagHasNoEffect : Obligations.ModeChangedFlagHasNoEffect := by
  unfold Obligations.ModeChangedFlagHasNoEffect
  intro m g f w tc sr mc mc' s
  rfl

/-- Settles O36: the first XMIT leaves PWR at its intent, so a second with the same intent finds nothing to toggle. -/
theorem repeatedPowerIntentSendsNoToggle : Obligations.RepeatedPowerIntentSendsNoToggle := by
  unfold Obligations.RepeatedPowerIntentSendsNoToggle
  intro m m' g g' f f' w w' tc mc sr tc' mc' sr' s t u hfirst hsecond
  obtain ⟨t', hfirst', hmode, _, _, _, hpwr, _⟩ := xmitLatchesTheRequestAndArmsTheGuard m g f w tc mc sr s
  obtain rfl : t' = t := Host.Outcome.next.inj (hfirst'.symm.trans hfirst)
  refine ⟨by rw [hpwr, hmode], fun hintent => ?_⟩
  rw [frameOut_of_exec_xmit hsecond, getField_fieldPower_buildFrame, hpwr, toggles, hintent, bne_self_eq_false]
  rfl

end Sys2Proof.Machine
end

section
/-! PROOFS. The machine stops on an XMIT request with mode code 5 or 6 only (43_encoder.md R181, 60_exceptions.md
R280). -/

namespace Sys2Proof.Machine

/-- Every instruction answers a next state (60_exceptions.md R280). -/
theorem exists_exec_next (i : Instr) (s : State) : ∃ t, exec i s = .next t := by
  rcases exec_cases i s with ⟨_, he⟩ | ⟨_, he⟩ | ⟨_, _, _, _, _, _, _, _, he⟩ | ⟨_, _, he⟩ | ⟨_, _, he⟩ | ⟨_, _, he⟩ <;>
    exact ⟨_, he⟩

/-- A word that is refused for its mode code is an XMIT request with mode code 5 or 6 (43_encoder.md R181). -/
theorem op_of_decode_modeNotAdmitted {tol : Fin 101} {ys : List Symbol} {w : PortWord}
    (hdec : decode tol ys w = .error .modeNotAdmitted) :
    ∃ req rx, w = .op 1 req rx ∧ (req.extractLsb' 0 3 = 5 ∨ req.extractLsb' 0 3 = 6) := by
  cases w with
  | op op req rx =>
    by_cases hop : op = 1
    · subst hop
      refine ⟨req, rx, rfl, ?_⟩
      by_contra hadm
      obtain ⟨m, t, f, w, tc, mc, sr, hreq, _⟩ := exists_xmitOfReq hadm
      rw [decode_op_one_of_some hreq] at hdec
      cases hdec
    · simp only [decode, if_neg hop] at hdec
      split_ifs at hdec
  | frame w => cases hdec
  | symbol items =>
    simp only [decode] at hdec
    split at hdec <;> cases hdec

/-- A request refused for its mode code stops the machine (43_encoder.md R181). -/
theorem step_of_decodeHere_modeNotAdmitted {s : State} {w : PortWord} {rest : List HostEvent}
    (hport : s.port = .request w :: rest) (hdec : decodeHere s w = .error .modeNotAdmitted) :
    step s = .refused .modeNotAdmitted := by
  simp [step, fetch, hport, hdec]

/-- Settles O8: of what the port can hold, an instruction answers a next state, the other events are performed, and only
the request named decodes to the refusal. -/
theorem onlyUnadmittedModesAreRefused : Obligations.OnlyUnadmittedModesAreRefused := by
  unfold Obligations.OnlyUnadmittedModesAreRefused
  intro s
  by_cases hreq : ∃ req rx rest, s.port = .request (.op 1 req rx) :: rest ∧
      (req.extractLsb' 0 3 = 5 ∨ req.extractLsb' 0 3 = 6)
  · obtain ⟨req, rx, rest, hport, hno⟩ := hreq
    exact .inl ⟨req, rx, rest, hport, hno, step_of_decodeHere_modeNotAdmitted hport
      (decode_op_one_of_none (xmitOfReq_eq_none hno) _ _ rx)⟩
  · refine .inr ⟨?_, fun req rx rest hport hno => hreq ⟨req, rx, rest, hport, hno⟩⟩
    rcases fetch_cases s with ⟨_, hf⟩ | ⟨rest, _, hf⟩ | ⟨p, rest, _, hf⟩ | ⟨w, rest, i, _, _, hf⟩ |
        ⟨w, rest, hport, hdec, _⟩ | ⟨w, rest, _, _, hf⟩
    · exact step_of_fetch_run hf ▸ exists_exec_next .idle s
    · exact ⟨_, by rw [step, hf]⟩
    · exact ⟨_, by rw [step, hf]⟩
    · exact step_of_fetch_run hf ▸ exists_exec_next i _
    · obtain ⟨req, rx, rfl, hno⟩ := op_of_decode_modeNotAdmitted hdec
      exact absurd ⟨req, rx, rest, hport, hno⟩ hreq
    · exact ⟨_, by rw [step, hf]⟩

end Sys2Proof.Machine
end

section
/-! PROOFS. The ends of a RECV that failed: what each reports, and that it writes nothing else (44_decoder.md R221,
R223, R224, R232; 60_exceptions.md R282 to R289). -/

namespace Sys2Proof.Machine

/-! ### The guard decides whether the attempt is looked at (44_decoder.md R221) -/

theorem receive_of_guard_set {s : State} (hguard : s.guard = true) (r : DemodResult) :
    receive r s = suppressEcho (receiveStart s) := if_pos hguard

theorem receive_of_guard_clear {s : State} (hguard : s.guard = false) (r : DemodResult) :
    receive r s = receiveResult r (receiveStart s) := if_neg (ne_true_of_eq_false hguard)

theorem exec_recv (rx : Train) (s : State) :
    exec (.recv rx) s = .next (receive (demodulate s.inst.tolPct rx) s) := rfl

theorem exec_recv_of_guard_set {s : State} (hguard : s.guard = true) (rx : Train) :
    exec (.recv rx) s = .next (suppressEcho (receiveStart s)) := by
  rw [exec_recv, receive_of_guard_set hguard]

theorem exec_recv_of_guard_clear {rx : Train} {f : Frame} {s : State} (hguard : s.guard = false)
    (hdemod : demodulate s.inst.tolPct rx = .ok f) :
    exec (.recv rx) s = .next (checkAndInterpret f (receiveStart s)) := by
  rw [exec_recv, receive_of_guard_clear hguard, hdemod]
  rfl

/-! ### The checks on a demodulated frame (44_decoder.md R223, R224) -/

theorem csumChk_eq_false_iff (f : Frame) : csumChk f = (false, false) ↔ (bad1 f || bad2 f) = false := by
  rw [csumChk_eq_iff, Bool.or_eq_false_iff]

theorem checkAndInterpret_of_badSum {f : Frame} (hbad : csumChk f ≠ (false, false)) (s : State) :
    checkAndInterpret f s = raise causeChecksum (.sums (bad1 f) (bad2 f)) s := by
  rw [Ne, csumChk_eq_false_iff, Bool.not_eq_false] at hbad
  exact if_pos hbad

theorem checkAndInterpret_of_badHeader {f : Frame} {s : State} (hsums : csumChk f = (false, false))
    (hhdr : f[0] ≠ s.inst.hdr0 ∨ f[1] ≠ s.inst.hdr1) :
    checkAndInterpret f s = raise causeHeader (.headers (badHdr0 s.inst f) (badHdr1 s.inst f)) s := by
  rw [csumChk_eq_false_iff] at hsums
  have hbad : (badHdr0 s.inst f || badHdr1 s.inst f) = true := by
    simpa only [badHdr0, badHdr1, Bool.or_eq_true, bne_iff_ne] using hhdr
  rw [checkAndInterpret, if_neg (ne_true_of_eq_false hsums), if_pos hbad]

/-! ### What a failure writes (60_exceptions.md R289) -/

/-- A suppression reports CAUSE 1 and clears the guard with its timer. -/
theorem suppressEcho_frame (s : State) :
    let t := suppressEcho (receiveStart s)
    t.ok = false ∧ t.cause = 1 ∧ t.guard = false ∧ t.gtimer = 0 ∧ t.publish = false ∧ t.sink = none ∧
      SameDevice s t ∧ t.pwr = s.pwr ∧ t.frameOut = s.frameOut ∧ SameInputs s t := by
  simp [suppressEcho, receiveStart, causeEcho, SameDevice, SameInputs]

/-- Any other failure reports its CAUSE and INFO and leaves the guard too. -/
theorem raise_frame (cause : BitVec 3) (info : Info) (s : State) :
    let t := raise cause info (receiveStart s)
    t.ok = false ∧ t.cause = cause ∧ t.info = info ∧ t.publish = false ∧ t.sink = none ∧ SameDevice s t ∧
      t.pwr = s.pwr ∧ SameGuard s t ∧ t.frameOut = s.frameOut ∧ SameInputs s t := by
  simp [receiveStart, SameDevice, SameGuard, SameInputs]

/-- Settles O38: the guard is looked at before the train. -/
theorem recvUnderGuardIsSuppressed : Obligations.RecvUnderGuardIsSuppressed := by
  unfold Obligations.RecvUnderGuardIsSuppressed
  intro rx s hguard
  exact ⟨_, exec_recv_of_guard_set hguard rx, suppressEcho_frame s⟩

/-- Settles O40: the sums are checked before the header bytes. -/
theorem recvReportsChecksumMismatch : Obligations.RecvReportsChecksumMismatch := by
  unfold Obligations.RecvReportsChecksumMismatch
  intro rx f s hguard hdemod hbad
  refine ⟨_, ?_, raise_frame causeChecksum (.sums (bad1 f) (bad2 f)) s⟩
  rw [exec_recv_of_guard_clear hguard hdemod, checkAndInterpret_of_badSum hbad]

/-- Settles O41: with right sums the header bytes decide. -/
theorem recvReportsHeaderMismatch : Obligations.RecvReportsHeaderMismatch := by
  unfold Obligations.RecvReportsHeaderMismatch
  intro rx f s hguard hdemod hsums hhdr
  refine ⟨_, ?_, raise_frame causeHeader (.headers (badHdr0 s.inst f) (badHdr1 s.inst f)) s⟩
  rw [exec_recv_of_guard_clear hguard hdemod, checkAndInterpret_of_badHeader (s := receiveStart s) hsums hhdr]
  rfl

/-! ### Failures as a whole (44_decoder.md R232) -/

/-- PUBLISH is pulsed exactly by a reception that succeeds (44_decoder.md R230). -/
theorem receive_publish_eq_ok (r : DemodResult) (s : State) : (receive r s).publish = (receive r s).ok := by
  rcases receive_ends r s with h | ⟨cause, info, h⟩ | ⟨f, h⟩ <;> rw [h] <;> rfl

/-- A clear guard stays as it is, with its timer, and the attempt is not reported as suppressed (44_decoder.md R221). -/
theorem receive_of_guard_clear_frame {s : State} (hguard : s.guard = false) (r : DemodResult) :
    SameGuard s (receive r s) ∧ (receive r s).cause ≠ 1 := by
  rcases receive_cases r s with ⟨hset, _⟩ | ⟨_, pos, _, h⟩ | ⟨_, f, _, _, h⟩ | ⟨_, f, _, _, _, h⟩ | ⟨_, f, _, _, h⟩
  · exact absurd (hset.symm.trans hguard) (by decide)
  · exact h ▸ ⟨⟨rfl, rfl⟩, (by decide : causeTiming ≠ 1)⟩
  · exact h ▸ ⟨⟨rfl, rfl⟩, (by decide : causeChecksum ≠ 1)⟩
  · exact h ▸ ⟨⟨rfl, rfl⟩, (by decide : causeHeader ≠ 1)⟩
  · obtain ⟨_, hcause, _, _, hsame, _⟩ := interpretFrame_end f (receiveStart s)
    rw [h, hcause]
    exact ⟨hsame, by decide⟩

/-- Settles O43: a failed reception pulses no PUBLISH, and only a set guard is used up. -/
theorem failedRecvChangesNoDeviceState : Obligations.FailedRecvChangesNoDeviceState := by
  unfold Obligations.FailedRecvChangesNoDeviceState
  intro rx s t hexec
  obtain rfl := Host.Outcome.next.inj hexec
  refine ⟨fun hfailed => ?failed, fun hguard => ?clear, fun hguard => ?suppressed⟩
  case failed =>
    refine (receive_device_cases _ s).resolve_right fun hpublish => ?_
    exact absurd (hpublish.symm.trans ((receive_publish_eq_ok _ s).trans hfailed)) (by decide)
  case clear =>
    obtain ⟨hsame, _⟩ := receive_of_guard_clear_frame hguard (demodulate s.inst.tolPct rx)
    exact hsame
  case suppressed =>
    obtain ⟨hok, hcause, hclear, htimer, _⟩ := suppressEcho_frame s
    rw [receive_of_guard_set hguard]
    exact ⟨hok, hcause, hclear, htimer⟩

end Sys2Proof.Machine
end

section
/-! PROOFS. What RECV of an accepted frame makes of the registers, and of which fields of the frame (44_decoder.md R225
to R230, R233 to R235). -/

namespace Sys2Proof.Machine

/-! ### RECV of an accepted frame is its interpretation -/

theorem exec_recv_of_accepted {rx : Train} {f : Frame} {s : State} (hguard : s.guard = false)
    (hdemod : demodulate s.inst.tolPct rx = .ok f) (hacc : frameAccepted s.inst f = true) :
    exec (.recv rx) s = .next (interpretFrame f (receiveStart s)) := by
  rw [exec_recv, hdemod, receive_of_accepted hguard hacc]

/-- Settles O44: the four cases of the Power bit and PWR. -/
theorem recvMovesPowerAndModeByTheTable : Obligations.RecvMovesPowerAndModeByTheTable := by
  unfold Obligations.RecvMovesPowerAndModeByTheTable
  intro rx f s hguard hdemod hacc
  obtain ⟨hpwr, hmode⟩ := interpretFrame_pwr_mode f (receiveStart s)
  have hstart : (receiveStart s).pwr = s.pwr := rfl
  rw [hstart] at hpwr
  rw [hpwr, modeOfWire_getD] at hmode
  refine ⟨_, exec_recv_of_accepted hguard hdemod hacc, fun hpower hs => ?_, fun hpower hs => ?_,
    fun hpower hs => ?_, fun hpower hs => ?_⟩ <;>
  · rw [hpower, hs] at hpwr hmode
    exact ⟨hpwr, hmode⟩

/-- AutoDec with its subtractions in the integers: an ATO of 5 to 7 is 4 more than its last two bits (30_encoding.md
R79). -/
theorem tempDec_eq (m : Model) (f : Frame) :
    tempDec m f =
      let base : Int := getField f fieldTemp + tmin m
      let a : Int := getField f fieldAto
      let p : Int := (getField f fieldPad1 / 4 : Nat)
      if getField f fieldMode = 1 then
        (if a = 1 ∨ a = 2 then base + 1 + a + p else if a ≥ 5 then base + 1 - ((a - 4) + p) else base + 1)
      else base := by
  have hato : getField f fieldAto < 8 := getField_lt f fieldAto
  simp only [tempDec, autoDec]
  split_ifs <;> omega

/-- Settles O45: what the interpretation writes, with the decoding formulas and the codes written out. -/
theorem recvInterpretsAnAcceptedFrame : Obligations.RecvInterpretsAnAcceptedFrame := by
  unfold Obligations.RecvInterpretsAnAcceptedFrame
  intro rx f s hguard hdemod hacc
  obtain ⟨htarget, hfan, hswing⟩ := interpretFrame_target_fan_swing f (receiveStart s)
  obtain ⟨hok, hcause, hpublish, hsink, hsame, hframe, hinputs⟩ := interpretFrame_end f (receiveStart s)
  obtain ⟨hdm, _⟩ := receive_frame (.ok f) s
  rw [receive_of_accepted hguard hacc] at hdm
  obtain ⟨hlo, hhi⟩ := tempDec_bounds (receiveStart s).pins.model f
  rw [← htarget] at hlo hhi
  rw [tempDec_eq] at htarget
  rw [fanOfWire_getField] at hfan
  simp only [swingRequested_iff] at hswing
  exact ⟨_, exec_recv_of_accepted hguard hdemod hacc, htarget, hlo, hhi, hfan, hswing, hok, hcause, hpublish, hsink,
    hsame, hframe, hinputs, hdm⟩

/-- Settles O51: the first reception leaves the guard and the constants, so the second accepts the frame too. -/
theorem twoSwingFramesRestoreTheSwing : Obligations.TwoSwingFramesRestoreTheSwing := by
  unfold Obligations.TwoSwingFramesRestoreTheSwing
  intro rx f s hguard hdemod hacc hswing
  obtain ⟨_, _, hfirst⟩ := interpretFrame_target_fan_swing f (receiveStart s)
  obtain ⟨_, _, _, _, ⟨hguard', _⟩, _, ⟨_, hinst, _⟩⟩ := interpretFrame_end f (receiveStart s)
  generalize ht : interpretFrame f (receiveStart s) = t at hfirst hguard' hinst
  obtain ⟨_, _, hsecond⟩ := interpretFrame_target_fan_swing f (receiveStart t)
  rw [if_pos hswing] at hfirst hsecond
  refine ⟨t, _, ht ▸ exec_recv_of_accepted hguard hdemod hacc,
    exec_recv_of_accepted (hguard'.trans hguard) (hinst ▸ hdemod) (hinst ▸ hacc), ?_, ?_⟩
  · exact hfirst ▸ toggleSwing_ne s.swing
  · calc (interpretFrame f (receiveStart t)).swing = toggleSwing t.swing := hsecond
      _ = toggleSwing (toggleSwing s.swing) := congrArg toggleSwing hfirst
      _ = s.swing := toggleSwing_toggleSwing s.swing

/-! ### The fields the interpreter examines (44_decoder.md R233) -/

/-- The fields that some step of 5 to 10 reads. -/
def examinedFields : List Field :=
  [fieldFan, fieldPower, fieldAto, fieldSwing1, fieldMode, fieldTemp, fieldSwing2, fieldCmd, fieldPad1]

/-- Frames that agree on the examined fields are interpreted alike. -/
theorem interpretFrame_congr {f f' : Frame} (h : ∀ x ∈ examinedFields, getField f x = getField f' x) (s : State) :
    interpretFrame f s = interpretFrame f' s := by
  simp only [examinedFields, List.forall_mem_cons] at h
  obtain ⟨hfan, hpower, hato, hswing1, hmode, htemp, hswing2, hcmd, hpad1, _⟩ := h
  have hstepPower : interpretPower f = interpretPower f' := funext fun s => by simp only [interpretPower, hpower]
  have hstepMode : interpretMode f = interpretMode f' := funext fun s => by simp only [interpretMode, hmode]
  have hstepTemp : interpretTemp f = interpretTemp f' :=
    funext fun s => by simp only [interpretTemp, tempDec, htemp, hmode, hato, hpad1]
  have hstepFan : interpretFan f = interpretFan f' := funext fun s => by simp only [interpretFan, hfan]
  have hrequest : swingRequested f = swingRequested f' := by simp only [swingRequested, hswing1, hswing2, hcmd]
  have hstepSwing : interpretSwing f = interpretSwing f' :=
    funext fun s => by rw [interpretSwing, interpretSwing, hrequest]
  rw [interpretFrame, interpretFrame, hstepPower, hstepMode, hstepTemp, hstepFan, hstepSwing]

/-- Settles O52: a set guard looks at neither frame, and a clear one has both interpreted. -/
theorem unexaminedFieldsDoNotMatter : Obligations.UnexaminedFieldsDoNotMatter := by
  unfold Obligations.UnexaminedFieldsDoNotMatter
  intro rx rx' f f' s hdemod hdemod' hacc hacc' hfields
  cases hguard : s.guard with
  | true => rw [exec_recv_of_guard_set hguard, exec_recv_of_guard_set hguard]
  | false =>
    rw [exec_recv_of_accepted hguard hdemod hacc, exec_recv_of_accepted hguard hdemod' hacc',
      interpretFrame_congr hfields]

end Sys2Proof.Machine
end

section
/-! PROOFS. Which instructions break `PWR = (DS.MODE != OFF)` (44_decoder.md R238). -/

namespace Sys2Proof.Machine

/-- An instruction that carries a frame is the frame's reception (44_decoder.md R231; log 9). -/
theorem exec_of_carries {i : Instr} {s : State} {f : Frame} (hf : Carries i s f) :
    exec i s = .next (receive (.ok f) s) := by
  rcases hf with ⟨rx, rfl, hdemod⟩ | hclass
  · exact exec_recv_of_demodulate hdemod
  · simp only [List.mem_cons, List.not_mem_nil, or_false] at hclass
    rcases hclass with rfl | rfl | rfl | rfl | rfl | rfl | rfl | rfl <;> rfl

/-- The instruction carries a frame that is interpreted: the guard is clear and the frame is accepted. -/
def Interprets (i : Instr) (s : State) (f : Frame) : Prop :=
  Carries i s f ∧ s.guard = false ∧ frameAccepted s.inst f = true

theorem exec_of_interprets {i : Instr} {s : State} {f : Frame} (hf : Interprets i s f) :
    exec i s = .next (interpretFrame f (receiveStart s)) := by
  obtain ⟨hcarries, hguard, hacc⟩ := hf
  rw [exec_of_carries hcarries, receive_of_accepted hguard hacc]

/-- A receive attempt leaves PWR and DS.MODE but when it interprets a frame (44_decoder.md R232). -/
theorem receive_power_cases (r : DemodResult) (s : State) :
    ((receive r s).pwr = s.pwr ∧ (receive r s).mode = s.mode) ∨
      ∃ f, r = .ok f ∧ s.guard = false ∧ frameAccepted s.inst f = true := by
  rcases receive_cases r s with ⟨_, h⟩ | ⟨_, pos, _, h⟩ | ⟨_, f, _, _, h⟩ | ⟨_, f, _, _, _, h⟩ |
      ⟨hguard, f, hr, hacc, _⟩
  · exact .inl (h ▸ ⟨rfl, rfl⟩)
  · exact .inl (h ▸ ⟨rfl, rfl⟩)
  · exact .inl (h ▸ ⟨rfl, rfl⟩)
  · exact .inl (h ▸ ⟨rfl, rfl⟩)
  · exact .inr ⟨f, hr, hguard, hacc⟩

theorem powerAgrees_congr {s t : State} (h : t.pwr = s.pwr ∧ t.mode = s.mode) : PowerAgrees t ↔ PowerAgrees s := by
  obtain ⟨hpwr, hmode⟩ := h
  rw [PowerAgrees, PowerAgrees, hpwr, hmode]

/-- XMIT leaves PWR at the requested mode's on or off (43_encoder.md R201). -/
theorem powerAgrees_of_exec_xmit {m : Mode} {g : Degrees} {f : Fan} {w : Swing} {tc mc sr : Bool} {s t : State}
    (hexec : exec (.xmit m g f w tc mc sr) s = .next t) : PowerAgrees t := by
  obtain ⟨hpwr, _⟩ := repeatedPowerIntentSendsNoToggle m m g g f f w w tc mc sr tc mc sr s t _ hexec rfl
  exact hpwr

/-- Where the relation holds, only the interpretation of a frame can break it. -/
theorem powerAgrees_or_interprets {i : Instr} {s t : State} (hs : PowerAgrees s) (hexec : exec i s = .next t) :
    PowerAgrees t ∨ ∃ f, Interprets i s f := by
  have hleft : t.pwr = s.pwr ∧ t.mode = s.mode → PowerAgrees t := fun h => (powerAgrees_congr h).mpr hs
  rcases exec_cases i s with ⟨_, he⟩ | ⟨_, he⟩ | ⟨m, g, f, w, tc, mc, sr, rfl, _⟩ | ⟨rx, rfl, he⟩ | ⟨f, hi, he⟩ |
      ⟨y, _, he⟩
  · obtain rfl := Host.Outcome.next.inj (he.symm.trans hexec)
    exact .inl hs
  · obtain rfl := Host.Outcome.next.inj (he.symm.trans hexec)
    exact .inl (hleft (by simp))
  · exact .inl (powerAgrees_of_exec_xmit hexec)
  · obtain rfl := Host.Outcome.next.inj (he.symm.trans hexec)
    rcases receive_power_cases (demodulate s.inst.tolPct rx) s with h | ⟨f, hdemod, hguard, hacc⟩
    · exact .inl (hleft h)
    · exact .inr ⟨f, .inl ⟨rx, rfl, hdemod⟩, hguard, hacc⟩
  · obtain rfl := Host.Outcome.next.inj (he.symm.trans hexec)
    rcases receive_power_cases (.ok f) s with h | ⟨f', hr, hguard, hacc⟩
    · exact .inl (hleft h)
    · obtain rfl := DemodResult.ok.inj hr
      exact .inr ⟨f, .inr hi, hguard, hacc⟩
  · obtain rfl := Host.Outcome.next.inj (he.symm.trans hexec)
    exact .inl hs

/-! ### The interpretation of a frame -/

/-- An unassigned mode code keeps the mode, and none of the others is OFF (30_encoding.md R74). -/
theorem isOn_modeOfWire_getD (c : Nat) (m : Mode) :
    isOn ((modeOfWire c).getD m) = if 5 ≤ c then isOn m else true := by
  split_ifs with hc
  · rw [modeOfWire_getD, if_neg (by omega), if_neg (by omega), if_neg (by omega), if_neg (by omega),
      if_neg (by omega)]
  · have hlt : c < 5 := by omega
    interval_cases c <;> rfl

/-- A frame that turns the power on without naming a mode (44_decoder.md R238). -/
def TurnsOnWithoutMode (f : Frame) (s : State) : Prop :=
  getField f fieldPower = 1 ∧ s.pwr = false ∧ 5 ≤ getField f fieldMode

/-- The relation, where it holds, survives every interpretation but that of such a frame (44_decoder.md R234, R238). -/
theorem interpretFrame_powerAgrees_iff {s : State} (hs : PowerAgrees s) (f : Frame) :
    PowerAgrees (interpretFrame f s) ↔ ¬ TurnsOnWithoutMode f s := by
  obtain ⟨hpwr, hmode⟩ := interpretFrame_pwr_mode f s
  have hcode := isOn_modeOfWire_getD (getField f fieldMode) s.mode
  rw [← show s.pwr = isOn s.mode from hs] at hcode
  rw [PowerAgrees, hmode, hpwr]
  by_cases hpower : getField f fieldPower = 1 <;> cases hp : s.pwr
  · simp [TurnsOnWithoutMode, hpower, hp, hcode]
  · simp [TurnsOnWithoutMode, hpower, hp, isOn]
  · simp [TurnsOnWithoutMode, hpower, hp, ← show s.pwr = isOn s.mode from hs]
  · simp [TurnsOnWithoutMode, hpower, hp, hcode]

/-! ### The one reception that breaks the relation -/

theorem not_powerAgrees_iff {i : Instr} {s t : State} (hs : PowerAgrees s) (hexec : exec i s = .next t) :
    ¬ PowerAgrees t ↔ ∃ f, Interprets i s f ∧ TurnsOnWithoutMode f s := by
  have hinterpret : ∀ f, Interprets i s f → (¬ PowerAgrees t ↔ TurnsOnWithoutMode f s) := fun f hf => by
    obtain rfl := Host.Outcome.next.inj ((exec_of_interprets hf).symm.trans hexec)
    exact not_iff_comm.mp (interpretFrame_powerAgrees_iff (s := receiveStart s) hs f).symm
  constructor
  · intro hbroken
    obtain ⟨f, hf⟩ := (powerAgrees_or_interprets hs hexec).resolve_left hbroken
    exact ⟨f, hf, (hinterpret f hf).mp hbroken⟩
  · rintro ⟨f, hf, hturns⟩
    exact (hinterpret f hf).mpr hturns

theorem mode_eq_off_of_not_powerAgrees {t : State} (hbroken : ¬ PowerAgrees t) (hpwr : t.pwr = true) :
    t.mode = .off := by
  by_contra hon
  exact hbroken (by simp [PowerAgrees, hpwr, isOn, hon])

/-- After that reception PWR is 1, so DS.MODE is OFF, and the frame was published. -/
theorem of_interprets_turnsOnWithoutMode {i : Instr} {s t : State} {f : Frame} (hf : Interprets i s f)
    (hturns : TurnsOnWithoutMode f s) (hexec : exec i s = .next t) : t.pwr = true ∧ t.publish = true := by
  obtain rfl := Host.Outcome.next.inj ((exec_of_interprets hf).symm.trans hexec)
  obtain ⟨hpower, hoff, _⟩ := hturns
  obtain ⟨hpwr, _⟩ := interpretFrame_pwr_mode f (receiveStart s)
  obtain ⟨_, _, hpublish, _⟩ := interpretFrame_end f (receiveStart s)
  rw [if_pos hpower, show (receiveStart s).pwr = false from hoff] at hpwr
  exact ⟨hpwr, hpublish⟩

/-- Settles O13: a broken relation comes from a frame that turns the power on without a mode. -/
theorem powerBeliefAgreesWithModeButForOneReception : Obligations.PowerBeliefAgreesWithModeButForOneReception := by
  unfold Obligations.PowerBeliefAgreesWithModeButForOneReception
  refine ⟨fun i s t hs hexec => ?_, fun m g f w tc mc sr s t hexec => powerAgrees_of_exec_xmit hexec⟩
  have hiff := not_powerAgrees_iff hs hexec
  refine ⟨or_iff_not_imp_left.mpr fun hbroken => ?_, ?_⟩
  · obtain ⟨f, hf, hturns⟩ := hiff.mp hbroken
    obtain ⟨hpwr, hpublish⟩ := of_interprets_turnsOnWithoutMode hf hturns hexec
    exact ⟨hpwr, mode_eq_off_of_not_powerAgrees hbroken hpwr, hpublish⟩
  · simpa only [Interprets, TurnsOnWithoutMode, and_assoc] using hiff

end Sys2Proof.Machine
end

section
/-! PROOFS. The echo window: an XMIT arms the guard for 1000 TICKs, and a RECV in the window is suppressed
(44_decoder.md R236, 43_encoder.md R194, 45_host_ops.md R260). -/

namespace Sys2Proof.Machine

/-- A guard unit of time takes one from the timer, and nothing from a timer that is out (45_host_ops.md R260). -/
theorem tickGuard_gtimer_toNat (s : State) : (tickGuard s).gtimer.toNat = s.gtimer.toNat - 1 := by
  rw [tickGuard_gtimer]
  split_ifs with hzero
  · simp [hzero]
  · bv_omega

/-- Any number of TICKs answers a state: the timer has gone down by as much, and the guard still goes with it. -/
theorem runInstrs_ticks (n : Nat) {s : State} (hinv : GuardInv s) :
    ∃ t, runInstrs (List.replicate n .tick) s = .next t ∧ GuardInv t ∧ t.gtimer.toNat = s.gtimer.toNat - n := by
  induction n generalizing s with
  | zero => exact ⟨s, rfl, hinv, rfl⟩
  | succ n ih =>
    obtain ⟨t, hrun, hinv', htimer⟩ := ih (s := tickGuard (beginOp s)) (tickGuard_guardInv hinv)
    refine ⟨t, hrun, hinv', ?_⟩
    rw [htimer, tickGuard_gtimer_toNat, beginOp_gtimer]
    omega

/-- XMIT arms the guard for the whole window (43_encoder.md R194). -/
theorem guardInv_of_exec_xmit {m : Mode} {g : Degrees} {f : Fan} {w : Swing} {tc mc sr : Bool} {s t : State}
    (hexec : exec (.xmit m g f w tc mc sr) s = .next t) : GuardInv t ∧ t.gtimer.toNat = 1000 := by
  obtain rfl := Host.Outcome.next.inj hexec
  exact ⟨guardInv_of_armed rfl rfl, rfl⟩

/-- The guard is set while its timer runs (10_state.md R29). -/
theorem guard_eq_decide {s : State} (hinv : GuardInv s) : s.guard = decide (0 < s.gtimer.toNat) := by
  obtain ⟨hiff, _⟩ := hinv
  rw [Bool.eq_iff_iff, hiff, decide_eq_true_eq]
  bv_omega

/-- After an XMIT and `n` TICKs the guard is set exactly in the window. -/
theorem runInstrs_xmit_ticks (m : Mode) (g : Degrees) (f : Fan) (w : Swing) (tc mc sr : Bool) (n : Nat) (s : State) :
    ∃ t, runInstrs (.xmit m g f w tc mc sr :: List.replicate n .tick) s = .next t ∧
      t.guard = decide (n < 1000) := by
  obtain ⟨t', hxmit, _⟩ := exec_xmit m g f w tc mc sr s
  obtain ⟨hinv, hwindow⟩ := guardInv_of_exec_xmit hxmit
  obtain ⟨t, hticks, hinv', htimer⟩ := runInstrs_ticks n hinv
  refine ⟨t, ?_, ?_⟩
  · rw [runInstrs, hxmit]
    exact hticks
  · rw [guard_eq_decide hinv', htimer, hwindow, decide_eq_decide]
    omega

/-- Settles O57: the guard says whether the window is over, and a suppression ends it. -/
theorem echoWindowLastsOneThousandTicks : Obligations.EchoWindowLastsOneThousandTicks := by
  unfold Obligations.EchoWindowLastsOneThousandTicks
  intro m g f w tc mc sr n rx s
  obtain ⟨t, hrun, hguard⟩ := runInstrs_xmit_ticks m g f w tc mc sr n s
  refine ⟨t, _, hrun, exec_recv rx t, fun hn => ?inWindow, fun hn => ?after⟩
  case inWindow =>
    obtain ⟨hok, hcause, hclear, _, _, _, hdevice, hpwr, _⟩ := suppressEcho_frame t
    rw [receive_of_guard_set (hguard.trans (decide_eq_true hn))]
    refine ⟨hok, hcause, hdevice, hpwr, hclear, fun rx' v hexec => ?_⟩
    obtain rfl := Host.Outcome.next.inj hexec
    obtain ⟨_, hseen⟩ := receive_of_guard_clear_frame hclear (demodulate _ rx')
    exact hseen
  case after =>
    have hclear : t.guard = false := hguard.trans (decide_eq_false (Nat.not_lt.mpr hn))
    obtain ⟨_, hseen⟩ := receive_of_guard_clear_frame hclear (demodulate t.inst.tolPct rx)
    exact ⟨hclear, hseen, receive_of_guard_clear hclear _⟩

end Sys2Proof.Machine
end

section
/-! PROOFS. The round trip between two sessions: the frame XMIT builds is accepted by a session of the same constants,
and each field read comes back as the operand it was built from (44_decoder.md R237). -/

namespace Sys2Proof.Machine

/-- A session with the instance's header bytes accepts every frame built (43_encoder.md R183, R192). -/
theorem frameAccepted_buildFrame (inst : Instance) (m : Model) (pwr : Bool) (mode : Mode) (g : Degrees) (fan : Fan)
    (tc sr : Bool) : frameAccepted inst (buildFrame inst m pwr mode g fan tc sr) = true := by
  obtain ⟨hbad1, hbad2⟩ := (csumChk_eq_iff _ _ _).mp (csumChk_buildFrame inst m pwr mode g fan tc sr)
  obtain ⟨hhdr0, hhdr1, _⟩ := constantBytes_buildFrame inst m pwr mode g fan tc sr
  simp only [frameAccepted, hbad1, hbad2, badHdr0, badHdr1, hhdr0, hhdr1, bne_self_eq_false, Bool.not_false,
    Bool.and_self]

/-- RECV of the train of a frame built under the same constants interprets the frame (42_timing_codec.md R171). -/
theorem exec_recv_modulate_buildFrame {d : State} (hguard : d.guard = false) (htol : d.inst.tolPct.val ≤ 66) (m : Model)
    (pwr : Bool) (mode : Mode) (g : Degrees) (fan : Fan) (tc sr : Bool) :
    exec (.recv (modulate (buildFrame d.inst m pwr mode g fan tc sr))) d =
      .next (interpretFrame (buildFrame d.inst m pwr mode g fan tc sr) (receiveStart d)) :=
  exec_recv_of_accepted hguard (demodulate_modulate htol _) (frameAccepted_buildFrame d.inst m pwr mode g fan tc sr)

/-- Outside auto mode the target read is the clamped one (30_encoding.md R77, R79). -/
theorem tempDec_buildFrame_of_ne_auto (inst : Instance) (m : Model) (pwr : Bool) {mode : Mode} (hmode : mode ≠ .auto)
    (g : Degrees) (fan : Fan) (tc sr : Bool) :
    tempDec m (buildFrame inst m pwr mode g fan tc sr) = clamp g.toInt (tmin m) (tmax m) := by
  obtain ⟨htemp, _⟩ := buildFrame_of_ne_auto inst m pwr mode g fan tc sr hmode
  obtain ⟨hlo, _⟩ := tempEnc_bounds m g.toInt
  have hcode : getField (buildFrame inst m pwr mode g fan tc sr) fieldMode ≠ 1 := by
    rw [getField_fieldMode_buildFrame]
    cases mode with
    | auto => exact absurd rfl hmode
    | off | heat | cool | dry | fanOnly => decide
  rw [tempDec, if_neg hcode, htemp, Int.toNat_of_nonneg hlo, tempEnc, Int.sub_add_cancel]

/-- A receiver with the sender's belief takes over the requested on or off: the power bit says whether the two differ
(43_encoder.md R184, 44_decoder.md R225). -/
theorem pwr_of_toggles (mode : Mode) (pwr : Bool) :
    (if (toggles mode pwr).toNat = 1 then !pwr else pwr) = isOn mode := by
  cases pwr <;> cases h : isOn mode <;> simp [toggles, h]

/-- The mode's wire code names the mode, if it is not OFF (30_encoding.md R74). -/
theorem modeOfWire_getD_wireMode {mode : Mode} (hmode : mode ≠ .off) (m : Mode) :
    (modeOfWire ((wireMode mode).getD 0)).getD m = mode := by
  cases mode with
  | off => exact absurd rfl hmode
  | heat | auto | cool | dry | fanOnly => rfl

/-- PWR, DS.MODE and DS.FAN of a receiver with the sender's belief. -/
theorem interpretFrame_buildFrame (inst : Instance) (m : Model) (mode : Mode) (g : Degrees) (fan : Fan) (tc sr : Bool)
    (s : State) :
    let t := interpretFrame (buildFrame inst m s.pwr mode g fan tc sr) s
    t.pwr = isOn mode ∧ (mode ≠ .off → t.mode = mode) ∧
      (mode = .off → s.mode = .off ∨ s.pwr = true → t.mode = .off) ∧ t.fan = fan := by
  obtain ⟨hpwr, hmode⟩ := interpretFrame_pwr_mode (buildFrame inst m s.pwr mode g fan tc sr) s
  obtain ⟨_, hfan, _⟩ := interpretFrame_target_fan_swing (buildFrame inst m s.pwr mode g fan tc sr) s
  rw [getField_fieldPower_buildFrame, pwr_of_toggles] at hpwr
  rw [hpwr, getField_fieldMode_buildFrame, getField_fieldPower_buildFrame] at hmode
  rw [getField_fieldFan_buildFrame, fanOfWire_wireFan] at hfan
  refine ⟨hpwr, fun hon => ?on, fun hoff hbelief => ?off, hfan⟩
  case on =>
    have hison : isOn mode = true := bne_iff_ne.mpr hon
    rw [hmode, if_pos hison, modeOfWire_getD_wireMode hon]
  case off =>
    subst hoff
    rcases hbelief with hoff | hpower
    · simpa [isOn, hoff] using hmode
    · simpa [isOn, toggles, hpower] using hmode

/-- Settles O58: the sender shows the frame built from PWR and MODEL that the receiver shares, and the receiver
interprets it. -/
theorem separateSessionReceivesWhatIsSent : Obligations.SeparateSessionReceivesWhatIsSent := by
  unfold Obligations.SeparateSessionReceivesWhatIsSent
  intro m g fn w tc mc sr e d hguard hpwr hmodel hinst htol
  obtain ⟨e', hxmit, hframe⟩ := exec_xmit m g fn w tc mc sr e
  rw [← hpwr, ← hmodel, ← hinst] at hframe
  have hrecv := exec_recv_modulate_buildFrame hguard htol d.pins.model d.pwr m g fn tc sr
  obtain ⟨hbelief, hon, hoff, hfan⟩ := interpretFrame_buildFrame d.inst d.pins.model m g fn tc sr (receiveStart d)
  obtain ⟨htarget, _⟩ :=
    interpretFrame_target_fan_swing (buildFrame d.inst d.pins.model d.pwr m g fn tc sr) (receiveStart d)
  obtain ⟨hok, _⟩ := interpretFrame_end (buildFrame d.inst d.pins.model d.pwr m g fn tc sr) (receiveStart d)
  rw [← hframe] at hrecv
  rw [← hpwr, ← hmodel]
  refine ⟨e', _, hxmit, hrecv, ?_⟩
  rw [hframe]
  refine ⟨hok, hfan, hbelief, hon, hoff, fun hauto => ?clamped, fun hauto => ?auto⟩
  case clamped => exact htarget.trans (tempDec_buildFrame_of_ne_auto d.inst d.pins.model d.pwr hauto g fn tc sr)
  case auto =>
    subst hauto
    exact htarget.trans (tempDec_buildFrame_auto d.inst d.pins.model d.pwr g fn tc sr)

end Sys2Proof.Machine
end

section
/-! PROOFS. The two small host operations: TICK is one guard unit of time and IDLE is none, each in the state an
operation begins in (45_host_ops.md R260, R261). -/

namespace Sys2Proof.Machine

/-! ### A guard unit of time -/

/-- A timer that is out stays out, and the guard with it (45_host_ops.md R260). -/
theorem tickGuard_of_gtimer_eq_zero {s : State} (hout : s.gtimer = 0) : tickGuard s = s := by
  rcases tickGuard_cases s with ⟨_, he⟩ | ⟨hone, _⟩ | ⟨hrunning, _⟩
  · exact he
  · exact absurd (hout.symm.trans hone) (by decide)
  · exact absurd hout hrunning

/-- The guard is cleared by the unit that takes a running timer's last count, and by no other (45_host_ops.md R260). -/
theorem tickGuard_guard_of_running {s : State} (hrunning : s.gtimer ≠ 0) :
    (tickGuard s).guard = if s.gtimer = 1 then false else s.guard := by
  rcases tickGuard_cases s with ⟨hout, _⟩ | ⟨hone, he⟩ | ⟨_, hmore, he⟩
  · exact absurd hout hrunning
  · rw [he, if_pos hone]
  · rw [he, if_neg hmore]

/-- A guard unit of time writes the guard and its timer alone (45_host_ops.md R260). -/
theorem tickGuard_eq_with (s : State) :
    tickGuard s = { s with guard := (tickGuard s).guard, gtimer := (tickGuard s).gtimer } := by
  rcases tickGuard_cases s with ⟨_, he⟩ | ⟨_, he⟩ | ⟨_, _, he⟩ <;> rw [he]

/-! ### The two operations -/

/-- TICK ends the pulses of the operation before it and lets one guard unit of time pass (45_host_ops.md R260; log 8). -/
theorem exec_tick (s : State) : exec .tick s = .next (tickGuard (beginOp s)) := rfl

/-- IDLE ends the pulses of the operation before it and does nothing else (45_host_ops.md R261; log 8). -/
theorem exec_idle (s : State) : exec .idle s = .next (beginOp s) := rfl

/-- Settles O55: TICK is `tickGuard` in the state the operation begins in, split on whether the timer runs; what it
leaves unchanged is read off `tickGuard_eq_with`. -/
theorem tickCountsTheGuardDown : Obligations.TickCountsTheGuardDown := by
  unfold Obligations.TickCountsTheGuardDown
  intro s
  refine ⟨_, exec_tick s, fun hout => ?out, fun hrunning => ?running, ?frame⟩
  case out =>
    rw [tickGuard_of_gtimer_eq_zero (s := beginOp s) hout]
    exact ⟨rfl, rfl⟩
  case running => exact ⟨tickGuard_gtimer_toNat (beginOp s), tickGuard_guard_of_running (s := beginOp s) hrunning⟩
  case frame =>
    rw [tickGuard_eq_with (beginOp s)]
    exact ⟨⟨rfl, rfl, rfl, rfl⟩, rfl, rfl, ⟨rfl, rfl, rfl⟩, ⟨rfl, rfl, rfl⟩, rfl, rfl, rfl⟩

/-- Settles O56: all IDLE does is begin, and an operation begins with no PUBLISH and no sink invocation. -/
theorem idleChangesNothing : Obligations.IdleChangesNothing := by
  unfold Obligations.IdleChangesNothing
  intro s
  rw [exec_idle, beginOp]

end Sys2Proof.Machine
end

section
/-! PROOFS. The closed set of ends of a RECV and the order of its checks, for a train and for a lone frame
(60_exceptions.md R280 to R287, 44_decoder.md R222, R232). -/

namespace Sys2Proof.Machine

/-! ### The cursor of a decode that failed (42_timing_codec.md R166, R167) -/

/-- A failing decode stops at the first item of a place, of which the footer's, item 342, is the last. -/
theorem demodPlaces_cur_le {tol : Fin 101} {rx : Train} {ps : List Place} {d : Demod} (hd : d.RunsAt ps)
    (hfails : (demodPlaces tol rx ps d).failed = true) : (demodPlaces tol rx ps d).cur ≤ 342 := by
  induction ps generalizing d with
  | nil =>
    obtain ⟨_, hruns, _⟩ := hd
    exact absurd (hfails.symm.trans hruns) (by decide)
  | cons p rest ih =>
    cases hsel : selectSymbol tol rx d.cur (candidates p) with
    | none =>
      obtain ⟨n, hp, hcur⟩ := hd.cur_eq
      have hn : n < 172 := lt_of_grammar_getElem? hp
      rw [demodPlaces_of_unselected hd hsel]
      show d.cur ≤ 342
      omega
    | some y =>
      obtain ⟨hmem, _⟩ := fits_of_selectSymbol hsel
      rw [demodPlaces_of_selected hsel] at hfails ⊢
      exact ih (hd.accept hmem) hfails

/-- DEMOD reports no mismatch beyond the footer (60_exceptions.md R283). -/
theorem pos_le_of_demodulate_fail {tol : Fin 101} {rx : Train} {pos : Nat} (hfail : demodulate tol rx = .fail pos) :
    pos ≤ 342 := by
  by_cases hfails : (demodPlaces tol rx grammar Demod.start).failed = true
  · simp only [demodulate, if_pos hfails, DemodResult.fail.injEq] at hfail
    exact hfail ▸ demodPlaces_cur_le start_runsAt hfails
  · simp [demodulate, if_neg hfails] at hfail

/-! ### A RECV that ends in TimingMismatch -/

/-- With the guard clear a train that does not demodulate raises TimingMismatch (44_decoder.md R222). -/
theorem exec_recv_of_demodulate_fail {rx : Train} {pos : Nat} {s : State} (hguard : s.guard = false)
    (hfail : demodulate s.inst.tolPct rx = .fail pos) :
    exec (.recv rx) s = .next (raise causeTiming (.pos pos) (receiveStart s)) := by
  rw [exec_recv, receive_of_guard_clear hguard, hfail]
  rfl

/-- Settles O39: the failure is raised with DEMOD's cursor, which is at a place of the grammar. -/
theorem recvReportsTimingMismatch : Obligations.RecvReportsTimingMismatch := by
  unfold Obligations.RecvReportsTimingMismatch
  intro rx pos s hguard hfail
  exact ⟨pos_le_of_demodulate_fail hfail, _, exec_recv_of_demodulate_fail hguard hfail,
    raise_frame causeTiming (.pos pos) s⟩

/-! ### The five ends -/

/-- Settles O42: the five cases of a receive attempt, each with what its end reports. -/
theorem recvEndsInOneOfFiveWays : Obligations.RecvEndsInOneOfFiveWays := by
  unfold Obligations.RecvEndsInOneOfFiveWays
  intro rx s
  refine ⟨_, exec_recv rx s, receive_publish_eq_ok _ s, ?_⟩
  rcases receive_cases (demodulate s.inst.tolPct rx) s with ⟨_, he⟩ | ⟨_, pos, hfail, he⟩ | ⟨_, f, _, hsums, he⟩ |
      ⟨_, f, _, _, hhdr, he⟩ | ⟨_, f, _, _, he⟩ <;> rw [he]
  · obtain ⟨hok, hcause, _⟩ := suppressEcho_frame s
    exact .inr (.inl ⟨hok, hcause⟩)
  · exact .inr (.inr (.inl ⟨rfl, rfl, pos, rfl, pos_le_of_demodulate_fail hfail⟩))
  · exact .inr (.inr (.inr (.inl ⟨rfl, rfl, bad1 f, bad2 f, rfl, hsums⟩)))
  · exact .inr (.inr (.inr (.inr ⟨rfl, rfl, badHdr0 s.inst f, badHdr1 s.inst f, rfl, hhdr⟩)))
  · obtain ⟨hok, hcause, _⟩ := interpretFrame_end f (receiveStart s)
    exact .inl ⟨hok, hcause⟩

/-! ### The order of the checks on a lone frame (60_exceptions.md R287) -/

/-- With the guard clear a frame that is not accepted raises the failure of its first wrong check. -/
theorem receive_of_rejected {f : Frame} {s : State} (hguard : s.guard = false)
    (hrej : frameAccepted s.inst f = false) :
    ∃ info, receive (.ok f) s = raise (if bad1 f || bad2 f then 3 else 4) info (receiveStart s) := by
  rcases receive_cases (.ok f) s with ⟨hset, _⟩ | ⟨_, _, hr, _⟩ | ⟨_, f', hr, hsums, he⟩ | ⟨_, f', hr, hsums, _, he⟩ |
      ⟨_, f', hr, hacc, _⟩
  · exact absurd (hset.symm.trans hguard) (by decide)
  · exact DemodResult.noConfusion hr
  · obtain rfl := DemodResult.ok.inj hr
    exact ⟨_, by rw [he, if_pos hsums, causeChecksum]⟩
  · obtain rfl := DemodResult.ok.inj hr
    exact ⟨_, by rw [he, if_neg (ne_true_of_eq_false hsums), causeHeader]⟩
  · obtain rfl := DemodResult.ok.inj hr
    exact absurd (hacc.symm.trans hrej) (by decide)

/-- Settles O47: whichever the class, a set guard suppresses the frame, and a clear one leaves it to the checks. -/
theorem everyFrameClassIsCheckedInOrder : Obligations.EveryFrameClassIsCheckedInOrder := by
  unfold Obligations.EveryFrameClassIsCheckedInOrder
  intro mk hmk f s hturned
  refine ⟨_, exec_frameClass hmk f s, ?_⟩
  cases hguard : s.guard with
  | true =>
    obtain ⟨hok, hcause, hclear, htimer, hpublish, hsink, hdevice, hpwr, hframe, hinputs⟩ := suppressEcho_frame s
    rw [receive_of_guard_set hguard]
    exact ⟨hok, hpublish, hcause, hclear, Bool.noConfusion, fun _ => htimer, hsink, hdevice, hpwr, hframe, hinputs⟩
  | false =>
    have hrej : frameAccepted s.inst f = false := hturned.resolve_left (ne_true_of_eq_false hguard)
    obtain ⟨info, he⟩ := receive_of_rejected hguard hrej
    obtain ⟨hok, hcause, _, hpublish, hsink, hdevice, hpwr, hsame, hframe, hinputs⟩ := raise_frame _ info s
    rw [he]
    exact ⟨hok, hpublish, hcause, hguard, fun _ => hsame, Bool.noConfusion, hsink, hdevice, hpwr, hframe, hinputs⟩

end Sys2Proof.Machine
end

section
/-! PROOFS. The loop-back hazard: after the echo window the codec takes its own power-on frame for a power-off
(70_reset_and_hazards.md R323, 44_decoder.md R225, R229). -/

namespace Sys2Proof.Machine

/-! ### What the wait leaves of an XMIT -/

/-- TICKs write the guard, its timer and the pulses alone (45_host_ops.md R260). -/
theorem eq_with_of_runInstrs_ticks {n : Nat} {s t : State} (hrun : runInstrs (List.replicate n .tick) s = .next t) :
    t = { s with guard := t.guard, gtimer := t.gtimer, publish := t.publish, sink := t.sink } := by
  induction n generalizing s with
  | zero =>
    obtain rfl := Host.Outcome.next.inj hrun
    rfl
  | succ n ih =>
    have hrest := ih (s := tickGuard (beginOp s)) hrun
    rw [tickGuard_eq_with] at hrest
    exact hrest

/-- DS.MODE, DS.SWING, PWR, FRAME_OUT and the constants, as an XMIT set them, outlast any number of TICKs
(43_encoder.md R182, R193, R201). -/
theorem runInstrs_xmit_ticks_frame {m : Mode} {g : Degrees} {f : Fan} {w : Swing} {tc mc sr : Bool} {n : Nat}
    {s t : State} (hrun : runInstrs (.xmit m g f w tc mc sr :: List.replicate n .tick) s = .next t) :
    t.mode = m ∧ t.swing = w ∧ t.pwr = isOn m ∧ t.inst = s.inst ∧
      t.frameOut = buildFrame s.inst s.pins.model s.pwr m g f tc sr := by
  obtain ⟨t', hxmit, hmode, _, _, hswing, hpwr, _, _, _, _, ⟨_, hinst, _⟩, _⟩ :=
    xmitLatchesTheRequestAndArmsTheGuard m g f w tc mc sr s
  have hframe := frameOut_of_exec_xmit hxmit
  rw [runInstrs, hxmit] at hrun
  rw [eq_with_of_runInstrs_ticks hrun]
  exact ⟨hmode, hswing, hpwr, hinst, hframe⟩

/-! ### What the codec reads in its own frame -/

/-- The frame built asks for a swing toggle exactly if the request did (43_encoder.md R190, 44_decoder.md R229). -/
theorem swingRequested_buildFrame (inst : Instance) (m : Model) (pwr : Bool) (mode : Mode) (g : Degrees) (fan : Fan)
    (tc sr : Bool) : swingRequested (buildFrame inst m pwr mode g fan tc sr) = sr := by
  obtain ⟨hswing1, hswing2⟩ := getField_swingFields_buildFrame inst m pwr mode g fan tc sr
  rw [Bool.eq_iff_iff, swingRequested_iff, hswing1, hswing2, getField_fieldCmd_buildFrame]
  cases sr <;> simp [cmdByTable]

/-- A device believed off is turned on by a frame with Power = 1 (43_encoder.md R184). -/
theorem getField_fieldPower_buildFrame_of_turnsOn (inst : Instance) (m : Model) {mode : Mode} (hon : isOn mode = true)
    (g : Degrees) (fan : Fan) (tc sr : Bool) : getField (buildFrame inst m false mode g fan tc sr) fieldPower = 1 := by
  rw [getField_fieldPower_buildFrame, toggles, hon]
  rfl

/-- Power = 1 turns a device that is believed on off (44_decoder.md R225). -/
theorem interpretFrame_of_turnsOff {f : Frame} {s : State} (hpower : getField f fieldPower = 1) (hs : s.pwr = true) :
    (interpretFrame f s).pwr = false ∧ (interpretFrame f s).mode = .off := by
  obtain ⟨hpwr, hmode⟩ := interpretFrame_pwr_mode f s
  rw [if_pos hpower, hs] at hpwr
  rw [hpwr, if_pos hpower] at hmode
  exact ⟨hpwr, hmode⟩

/-- Settles O59: after the window the guard is clear and PWR is 1, so the Power bit that turned the device on turns it
off. -/
theorem ownPowerOnFrameHeardLateTurnsOff : Obligations.OwnPowerOnFrameHeardLateTurnsOff := by
  unfold Obligations.OwnPowerOnFrameHeardLateTurnsOff
  intro m g fn w tc mc sr n s hmode hoff hn htol
  have hon : isOn m = true := bne_iff_ne.mpr hmode
  obtain ⟨t, hrun, hguard⟩ := runInstrs_xmit_ticks m g fn w tc mc sr n s
  have hclear : t.guard = false := hguard.trans (decide_eq_false (Nat.not_lt.mpr hn))
  obtain ⟨hmodeT, hswingT, hpwrT, hinst, hframe⟩ := runInstrs_xmit_ticks_frame hrun
  rw [hoff, ← hinst] at hframe
  have hrecv := exec_recv_modulate_buildFrame hclear (hinst ▸ htol) s.pins.model false m g fn tc sr
  have hpower := getField_fieldPower_buildFrame_of_turnsOn t.inst s.pins.model hon g fn tc sr
  have hrequest := swingRequested_buildFrame t.inst s.pins.model false m g fn tc sr
  rw [← hframe] at hrecv hpower hrequest
  obtain ⟨hok, _⟩ := interpretFrame_end t.frameOut (receiveStart t)
  obtain ⟨hpwrU, hmodeU⟩ := interpretFrame_of_turnsOff (s := receiveStart t) hpower (hpwrT.trans hon)
  obtain ⟨_, _, hswingU⟩ := interpretFrame_target_fan_swing t.frameOut (receiveStart t)
  rw [hrequest, show (receiveStart t).swing = w from hswingT] at hswingU
  exact ⟨t, _, hrun, hpwrT.trans hon, hmodeT, hrecv, hok, hpwrU, hmodeU, hswingU⟩

end Sys2Proof.Machine
end

section
/-! PROOFS. The host's events that are no instruction: RST, the level pins, and items that match no symbol expected
(70_reset_and_hazards.md R310, 00_scope.md R16, 42_timing_codec.md R162; logs 1, 2, 11). -/

namespace Sys2Proof.Machine

/-- A host event that is no instruction is done with once it has been fetched. -/
theorem step_of_fetch_done {s t : State} (hf : fetch s = .done t) : step s = .next t := by
  simp only [step, hf]

theorem fetch_of_port_reset {s : State} {rest : List HostEvent} (hport : s.port = .reset :: rest) :
    fetch s = .done (assertReset { s with port := rest }) := by
  simp only [fetch, hport]

theorem fetch_of_port_setPins {s : State} {p : Pins} {rest : List HostEvent} (hport : s.port = .setPins p :: rest) :
    fetch s = .done (drivePins p { s with port := rest }) := by
  simp only [fetch, hport]

/-- A symbol word that matches no symbol expected where the decode stands is no instruction (42_timing_codec.md
R162). -/
theorem decodeHere_of_unexpected {s : State} {items : List (BitVec 33)}
    (hno : symbolOfItems s.inst.tolPct (expectedSymbols s.dm) (items.map itemOfWord) = none) :
    decodeHere s (.symbol items) = .error .notASymbol := by
  simp only [decodeHere, decode, hno]

/-- A symbol word that is no instruction is fetched as a mismatch (42_timing_codec.md R162, R167). -/
theorem fetch_of_decodeHere_notASymbol {s : State} {w : PortWord} {rest : List HostEvent}
    (hport : s.port = .request w :: rest) (hdec : decodeHere s w = .error .notASymbol) :
    fetch s = .done (mismatchSymbol { s with port := rest }) := by
  simp only [fetch, hport, hdec]

/-- Settles O7: each clause names what the port holds, hence what is fetched as done. -/
theorem otherHostEventsTakeEffect : Obligations.OtherHostEventsTakeEffect := by
  unfold Obligations.OtherHostEventsTakeEffect
  refine ⟨fun s rest hport => ?reset, fun s p rest hport => ?pins, fun s items rest hport hno => ?mismatch⟩
  case reset => exact step_of_fetch_done (fetch_of_port_reset hport)
  case pins => exact step_of_fetch_done (fetch_of_port_setPins hport)
  case mismatch =>
    refine ⟨_, step_of_fetch_done (fetch_of_decodeHere_notASymbol hport (decodeHere_of_unexpected hno)), ?_⟩
    simp [SameDevice, SameGuard]

/-- Settles O9: the six registers of `assertReset`, and the same six of the state right after reset. -/
theorem rstPutsTheRegistersAtTheirResetValues : Obligations.RstPutsTheRegistersAtTheirResetValues := by
  unfold Obligations.RstPutsTheRegistersAtTheirResetValues
  intro s
  exact ⟨assertReset_mode s, assertReset_fan s, assertReset_swing s, assertReset_pwr s, assertReset_guard s,
    assertReset_gtimer s, rfl, rfl, rfl, rfl, rfl, rfl⟩

end Sys2Proof.Machine
end

section
/-! PROOFS. The two other hazards stated: XMIT with TX_EN = 0, and a frame received under the other model
(70_reset_and_hazards.md R324, R328). -/

namespace Sys2Proof.Machine

/-! ### A dry run (60_exceptions.md R296) -/

/-- Step 2 does not look at the pins (43_encoder.md R184). -/
theorem updatePower_drivePins (m : Mode) (p : Pins) (s : State) :
    updatePower m (drivePins p s) = drivePins p (updatePower m s) := by
  unfold updatePower
  rw [drivePins_pwr]
  split <;> rfl

/-- Before step 11 an XMIT looks at MODEL alone of the pins: driven otherwise, they are all that differs in the state it
presents its frame in (00_scope.md R16, 43_encoder.md R195). -/
theorem exec_xmit_drivePins {p : Pins} {s : State} (hmodel : p.model = s.pins.model) (m : Mode) (g : Degrees) (f : Fan)
    (w : Swing) (tc mc sr : Bool) :
    exec (.xmit m g f w tc mc sr) (drivePins p s) =
      .next (presentFrame (buildFrame s.inst s.pins.model s.pwr m g f tc sr)
        (drivePins p (armGuard (updatePower m (latchRequest m g f w (beginOp s)))))) := by
  show Host.Outcome.next (presentFrame (buildFrame s.inst p.model s.pwr m g f tc sr)
    (armGuard (updatePower m (drivePins p (latchRequest m g f w (beginOp s)))))) = _
  rw [updatePower_drivePins, hmodel]
  rfl

/-- With TX_EN = 0 the frame is presented without the sink (43_encoder.md R195). -/
theorem presentFrame_drivePins_of_disabled {p : Pins} (hdry : p.txEn = false) (f : Frame) (s : State) :
    presentFrame f (drivePins p s) = { presentFrame f s with sink := none, pins := p } := by
  simp only [presentFrame, drivePins, hdry]
  rfl

/-- Settles O33: the two runs come to step 11 in states that differ in the pins alone, and step 11 looks at TX_EN for
the sink only. -/
theorem dryRunDiffersInTheSinkOnly : Obligations.DryRunDiffersInTheSinkOnly := by
  unfold Obligations.DryRunDiffersInTheSinkOnly
  intro m g f w tc mc sr s _
  refine ⟨_, rfl, ?_⟩
  have hdry := exec_xmit_drivePins (p := { s.pins with txEn := false }) (s := s) rfl m g f w tc mc sr
  rw [presentFrame_drivePins_of_disabled rfl] at hdry
  exact hdry

/-! ### The other model (30_encoding.md R79) -/

/-- AutoDec adds to its base temperature and looks at it no further (30_encoding.md R79). -/
theorem autoDec_add (base d : Int) (ato pad1 : Nat) : autoDec (base + d) ato pad1 = autoDec base ato pad1 + d := by
  simp only [autoDec]
  split_ifs <;> omega

/-- Settles O53: the models differ in TMIN by two, and TMIN enters the base temperature alone. -/
theorem otherModelReadsTwoDegreesHigher : Obligations.OtherModelReadsTwoDegreesHigher := by
  unfold Obligations.OtherModelReadsTwoDegreesHigher
  intro f
  have htmin : tmin .std = tmin .j191 + 2 := rfl
  simp only [tempDec, htmin, ← add_assoc, autoDec_add]
  split_ifs <;> rfl

end Sys2Proof.Machine
end
